-- ==== Sys2Proof/Word.lean ====
section
/-! DEFINITION. The word types of the QD-48: the widths the manual gives its bytes, addresses, tags, counters and times
(spec/00_scope.md, "Widths"; spec/01, "Transport header"). -/

namespace Sys2Proof

/-- One byte of a frame or a spool entry. -/
abbrev Byte := BitVec 8

/-- A 32-bit counter that wraps to 0 after 2^32 - 1 (00_scope.md, "Widths"). -/
abbrev Counter := BitVec 32

/-- A 24-bit fabric address. -/
abbrev FabAddr := BitVec 24

/-- A 48-bit Ethernet address. -/
abbrev MacAddr := BitVec 48

/-- A 16-bit exchange tag. -/
abbrev Tag := BitVec 16

/-- An epoch number: 32 bits, wrapping (R123). -/
abbrev EpochNo := BitVec 32

/-- The pace time in ticks of 0.1 microsecond: 32 bits, wrapping (R123). -/
abbrev PaceTime := BitVec 32

/-- A slot's generation: 8 bits, wrapping (R29). -/
abbrev Generation := BitVec 8

/-- An index of one of the 128 share slots; slot 0 is the commons. -/
abbrev SlotId := Fin 128

/-- An index of one of the 16 service profiles (R104). -/
abbrev ProfileId := Fin 16

end Sys2Proof
end

