-- ==== Sys2Proof/Config.lean ====
section
/-! DEFINITION. What an implementation fixes, and the free values: constants without a body, so that no proof can see
what they are. -/

namespace Sys2Proof

/-- Port F's Ethernet station address, fixed in the part when it is made (R1). The manual gives no value. Log entry 13. -/
opaque Config.stationAddress : MacAddr

/-- The free values of the pace tick: which order several events of one tick are taken in, and the places of the blocks'
parts in the boundaries and scan passes that the tick posts. The manual sets no order among them (R124, R126).
Applied to the counter `freeChoices` of the state. Log entry 12. -/
opaque Config.choice : Nat → Nat

end Sys2Proof
end

