-- ==== Sys2Proof/Syntax.lean ====
section
/-! DEFINITION. The commands of the QD-48: one constructor for each row of spec/opcode_table.json, and the operand types.
The table gives no operand; each constructor's docstring says what its operands stand for. -/

namespace Sys2Proof

/-- The two ports: F faces the storage switch, T the target (spec/01, "The two ports"). -/
inductive Port where
  | f
  | t
  deriving DecidableEq, Repr

/-- An Ethernet frame as a receiver hands it over, without its frame check sequence: the two Ethernet addresses, and
every byte that follows the Ethernet source address (R5 reads the EtherType from there). -/
structure Frame where
  ethDst : MacAddr
  ethSrc : MacAddr
  rest : List Byte
  deriving DecidableEq, Repr

/-- The two burst meters: A on channel 6, B on channel 7. -/
inductive Meter where
  | a
  | b
  deriving DecidableEq, Repr

/-- Where the Usage Spool's boundary step stands among the Scheduler's events of the same boundary (R139: the order is not
fixed): before the payout, between payout and release decision, or after the decision. -/
inductive SpoolTurn where
  | beforePay
  | afterPay
  | afterDecision
  deriving DecidableEq, Repr

/-- Where another block's part of a scan pass stands against the Tracker's walk and the decision that follows the walk
(R126 sets no order among the parts). -/
inductive ScanPlace where
  | beforeWalk
  | afterWalk
  | afterDecision
  deriving DecidableEq, Repr

/-- Which of two separate placements of one turn-away comes first: the part-made DONE or the NOTICE frames of its TURNED AWAY
condition (R48 leaves it open: either may find space in the origin queue while the other does not). -/
inductive TurnAwayOrder where
  | doneFirst
  | noticeFirst
  deriving DecidableEq, Repr

/-- A frame that arrives and may be a COMMAND to turn away; `order` is read by a turn-away alone. -/
structure Arrival where
  frame : Frame
  order : TurnAwayOrder
  deriving DecidableEq, Repr

/-- The commands. -/
inductive Instr where
  /-- Power is applied (R35 and every chapter's reset rule). -/
  | powerOn
  /-- The RST_N input goes low (R3). -/
  | rstN
  /-- Reset ends; the levels sampled then: ADDR[3:0], LINKF up, LINKT up (R2, R158). -/
  | resetEnd (straps : BitVec 4) (linkF linkT : Bool)
  /-- The port's link status input rises (R2). -/
  | linkUp (p : Port)
  /-- The port's link status input falls (R2). -/
  | linkDown (p : Port)
  /-- A frame arrives on a port; `fcsGood` says whether it passes the Ethernet frame check sequence (R3). -/
  | frameReceive (p : Port) (fcsGood : Bool) (arrival : Arrival)
  /-- A COMMAND arrives on Port F (R7, R41). -/
  | command (arrival : Arrival)
  /-- A READY arrives on Port T (R85). -/
  | ready (frame : Frame)
  /-- A DATA arrives on a port (R86). -/
  | data (p : Port) (frame : Frame)
  /-- A DONE arrives on Port T (R88). -/
  | done (frame : Frame)
  /-- An ABORT arrives on Port F (R92, R51). -/
  | abort (frame : Frame)
  /-- A HOLD arrives on Port T (R9, R77). -/
  | hold (frame : Frame)
  /-- The hold countdown reaches 0 (R77, R78). -/
  | holdCountdownExpiry
  /-- The port's free transmitter takes its next frame (R14, R16). -/
  | egressTake (p : Port)
  /-- The frame under transmission on the port ends (R14, R16). -/
  | transmissionEnd (p : Port)
  /-- The epoch pair expires (R124); `turn` places the spool's step (R139). -/
  | epochBoundary (turn : SpoolTurn)
  /-- CAL's expiry reaches the Rate Monitor (R115). -/
  | calExpiry
  /-- A burst meter's expiry is taken (R130, R73). -/
  | meterExpiry (m : Meter)
  /-- The scan channel expires (R126); the places of the Directory's idle marking and the Scheduler's starvation check. -/
  | scanPass (idle starve : ScanPlace)
  /-- An MREQ arrives on Port F (R10, R161). -/
  | mreqArrival (frame : Frame)
  /-- The waiting response is placed in the origin queue (R162). -/
  | responsePlacement
  /-- The Agent takes the oldest request, whose kind is not in the table (R163). -/
  | unknownKind
  /-- The Agent takes the oldest request, a QUERY PART (R164); so for each request kind below. -/
  | queryPart
  | stageSlot
  | stagePart
  | stageCost
  | stageClass
  | stageProfile
  | stageTracker
  | stagePace
  | stageSpool
  | stageNotice
  | commit
  | discard
  | readStageDigest
  | bind
  | unbind
  | suspend
  | resume
  | clearQuarantine
  | readSlot
  | readCounters
  | readMonitor
  | forceProfile
  | releaseForce
  /-- A CALIBRATE request with a count above 0 (R113), or one refused before its count is read. -/
  | calibrate
  /-- A CALIBRATE request with a count of 0 (R116). -/
  | calibrateCancel
  | spoolRead
  | spoolTrigger
  | spoolClear
  | clearNotices
  | setManagers
  | rename
  /-- A RESET PART request with scope FULL (R169), or one refused before or for its scope. -/
  | resetPartFull
  /-- A RESET PART request with scope TRAFFIC (R169). -/
  | resetPartTraffic
  /-- The FULL reset is carried out, its response placed (R170). -/
  | fullReset
  /-- The TRAFFIC reset is carried out, its response placed (R171). -/
  | trafficReset
  /-- The scan channel in STOPPING takes its next count, which is not its expiry (R122). -/
  | scanChannelStopped
  deriving DecidableEq, Repr

end Sys2Proof
end

