-- ==== Sys2Proof/Decode.lean ====
section
/-! DEFINITION. The opcode table gives no row any bits (spec/opcode_table.json: every "fields" is empty and no row has a
"fixed"), so no word spells a command. -/

namespace Sys2Proof

/-- The command a table word spells: none, whatever the word. -/
def decodeTableWord (_nbits _w : Nat) : Option Instr := none

end Sys2Proof
end

