-- ==== Sys2Proof/Machine/Bytes.lean ====
section
/-! DEFINITION. Byte order and CRC: multi-byte fields are sent most significant byte first (spec/00, "Byte order"), and
the CRC-16 is that of R18. -/

namespace Sys2Proof.Machine

/-- The low `n` bytes of `v`, most significant byte first. -/
def beBytes : (n : Nat) → (v : Nat) → List Byte
  | 0, _ => []
  | n + 1, v => BitVec.ofNat 8 (v / 256 ^ n) :: beBytes n v

/-- The `n` bytes of `l` from offset `i` on, read most significant byte first; a byte that is not there counts as 0. -/
def beNat (l : List Byte) (i : Nat) : (n : Nat) → Nat
  | 0 => 0
  | n + 1 => beNat l i n * 256 + (l.getD (i + n) 0#8).toNat

/-- One byte as a number. -/
def byteAt (l : List Byte) (i : Nat) : Nat := beNat l i 1

/-- One bit step of the CRC-16 with polynomial x^16 + x^12 + x^5 + 1 (R18). -/
def crcBit (c : BitVec 16) : BitVec 16 :=
  if c.msb then (c <<< 1) ^^^ 0x1021#16 else c <<< 1

/-- One byte step, bits taken most significant first (R18). -/
def crcByte (c : BitVec 16) (b : Byte) : BitVec 16 :=
  crcBit (crcBit (crcBit (crcBit (crcBit (crcBit (crcBit (crcBit (c ^^^ (b.setWidth 16 <<< 8)))))))))

/-- The CRC-16 of R18: initial value 0xFFFF, no final inversion. -/
def crc16 (bytes : List Byte) : BitVec 16 := bytes.foldl crcByte 0xFFFF#16

/-- A flag byte: 1 for set, 0 for clear. -/
def flagByte (b : Bool) : Byte := if b then 1#8 else 0#8

/-- An optional field of `n` bytes: presence flag, then the value, sent as 0 when absent (spec/01, "Request kinds"). -/
def optBytes (n : Nat) : Option Nat → List Byte
  | none => 0#8 :: beBytes n 0
  | some v => 1#8 :: beBytes n v

/-- A signed value in the low `bits` bits, two's complement. -/
def twosComplement (bits : Nat) (v : Int) : Nat := (v % (2 ^ bits : Int)).toNat

end Sys2Proof.Machine
end

