-- ==== Sys2Proof/Machine/Types.lean ====
section
/-! DEFINITION. The types of the state's parts, block by block, as the manual tables them. -/

namespace Sys2Proof.Machine

/-! ### Ports (spec/01) -/

/-- A port's link state (R2). -/
inductive LinkState where
  | up
  | down
  deriving DecidableEq, Repr

/-- The two sources of a port's egress: its forwarded queue, or its own second source, which is the release slot on
Port T and the origin queue on Port F (R14, R16). -/
inductive EgressSource where
  | forwarded
  | own
  deriving DecidableEq, Repr

/-- What each port holds. `forwarded` is the queue of frames that will leave on THIS port (R12); `turn` names the source
preferred at the next choice (R14); `sending` is the frame under transmission with the source it was taken from. -/
structure PortSide where
  link : LinkState
  forwarded : List Frame
  turn : EgressSource
  sending : Option (Frame × EgressSource)
  received : Counter
  transmitted : Counter
  egressDiscards : Counter
  forwardOverflow : Counter
  receiveErrors : Counter
  deriving DecidableEq, Repr

/-- The Frame Sorter's four counters (spec/01, "The Frame Sorter"). -/
structure Sorter where
  malformed : Counter
  unscheduled : Counter
  unmatched : Counter
  misported : Counter
  deriving DecidableEq, Repr

/-! ### Policy (spec/09, "The staged image") -/

/-- A slot's class (R30). -/
inductive SlotClass where
  | feed
  | live
  | study
  | bulk
  deriving DecidableEq, Repr

/-- The four storage operations (spec/01, "Kind codes and kind words"). -/
inductive Op where
  | read
  | write
  | flush
  | admin
  deriving DecidableEq, Repr

/-- The nine policy fields of a slot (R30). `batching` is the k of "every 2^k epochs", none for off. -/
structure SlotPolicy where
  cls : SlotClass
  weight : Nat
  floor : Nat
  cap : Nat
  ceiling : Option Nat
  debtLimit : Nat
  holdLimit : Nat
  concurrency : Nat
  batching : Option Nat
  deriving DecidableEq, Repr

/-- What becomes of an unlisted initiator's COMMAND (R21). -/
inductive UnlistedPolicy where
  | adopt
  | refuse
  deriving DecidableEq, Repr

/-- The part values, written by STAGE PART. -/
structure PartValues where
  feedReserve : Nat
  unlisted : UnlistedPolicy
  target : Option FabAddr
  transportType : BitVec 16
  violationThreshold : Nat
  staleLimit : Nat
  orphanLimit : Nat
  starveLimit : Nat
  idleLimit : Nat
  deriving DecidableEq, Repr

/-- One entry of the cost table: multiplier in eighths, overhead in sectors, refund-on-error flag (R66). -/
structure CostEntry where
  multiplier : Nat
  overhead : Nat
  refundOnError : Bool
  deriving DecidableEq, Repr

/-- The cost table (R66). -/
structure CostTable where
  read : CostEntry
  write : CostEntry
  flush : CostEntry
  admin : CostEntry
  deriving DecidableEq, Repr

/-- The class table: an optional age limit in epochs for each class (R64). -/
structure ClassTable where
  feed : Option Nat
  live : Option Nat
  study : Option Nat
  bulk : Option Nat
  deriving DecidableEq, Repr

/-- One entry of the profile table (R104). -/
structure Profile where
  valid : Bool
  rateLow : Nat
  rateHigh : Nat
  latencyCeiling : Nat
  budget : Nat
  deriving DecidableEq, Repr

/-- The tracker parameters (R112). -/
structure TrackerParams where
  saturation : Nat
  lockCount : Nat
  unlockCount : Nat
  silentCount : Nat
  fallbackBudget : Nat
  probeBudget : Nat
  deriving DecidableEq, Repr

/-- The four prescales of a tick-counting channel (R120). -/
inductive Prescale where
  | div1
  | div16
  | div256
  | div4096
  deriving DecidableEq, Repr

/-- A burst meter's settings (spec/07, "Burst meters"). -/
structure MeterSettings where
  binding : Option SlotId
  threshold : Nat
  liftAmount : Nat
  liftEpochs : Nat
  deriving DecidableEq, Repr

/-- The pace settings, written by STAGE PACE. A reload of 0 stands for the largest count (R120). -/
structure PaceSettings where
  epochPrescale : Prescale
  epochReload : Nat
  scanPrescale : Prescale
  scanReload : Nat
  scanEnable : Bool
  meterA : MeterSettings
  meterB : MeterSettings
  deriving DecidableEq, Repr

/-- The six spool modes (spec/08, "Modes and spool states"). -/
inductive SpoolMode where
  | off
  | stop
  | ring
  | ringThenStop
  | offThenRing
  | offThenStop
  deriving DecidableEq, Repr

/-- The spool settings, written by STAGE SPOOL (spec/08). -/
structure SpoolSettings where
  mode : SpoolMode
  summaryBatching : Option Nat
  markSpacing : Option Nat
  compression : Option Nat
  triggerMask : BitVec 16
  postReserve : Nat
  watermark : Nat
  stopOnWatermark : Bool
  batchSlot : Option SlotId
  batchThreshold : Nat
  deriving DecidableEq, Repr

/-- A notice route: an optional address and a mask over the notice kinds (R168). -/
structure NoticeRoute where
  address : Option FabAddr
  mask : BitVec 16
  deriving DecidableEq, Repr

/-- A whole policy image (spec/09, "The staged image"). The state holds two: staged and active. -/
structure Image where
  slots : Vector SlotPolicy 128
  part : PartValues
  cost : CostTable
  classes : ClassTable
  profiles : Vector Profile 16
  tracker : TrackerParams
  pace : PaceSettings
  spool : SpoolSettings
  routeA : NoticeRoute
  routeB : NoticeRoute
  deriving DecidableEq, Repr

/-- The Policy Stage (R149). The pending digest has a meaning while the flag is set; what it holds otherwise is the model's choice
(log entries 24 and 36). -/
structure PolicyStage where
  staged : Image
  active : Image
  commitPending : Bool
  pendingDigest : BitVec 16
  deriving DecidableEq, Repr

/-! ### Exchange records (spec/03, spec/05) -/

/-- The exchange key: initiator fabric address and exchange tag (R40). -/
structure ExchangeKey where
  initiator : FabAddr
  tag : Tag
  deriving DecidableEq, Repr

/-- The fields every live record carries (spec/03, "Record contents"). -/
structure Exchange where
  key : ExchangeKey
  slot : SlotId
  gen : Generation
  op : Op
  length : Nat
  admittedEpoch : EpochNo
  moved : Nat
  deriving DecidableEq, Repr

/-- A HELD record: the held frame and the two flags are present in this state alone (R39). -/
structure HeldRecord where
  ex : Exchange
  frame : Frame
  promoted : Bool
  starveNoted : Bool
  deriving DecidableEq, Repr

/-- The record states after release (spec/05, "Record states after release"). -/
inductive OpenState where
  | released
  | aborting
  | stale
  deriving DecidableEq, Repr

/-- A record from its release on: the release fields, and the ready amount of a WRITE (R85). -/
structure OpenRecord where
  ex : Exchange
  state : OpenState
  cost : Nat
  releaseEpoch : EpochNo
  releaseStamp : PaceTime
  ready : Option Nat
  deriving DecidableEq, Repr

/-! ### Slots (spec/02) -/

/-- The five slot states. -/
inductive SlotState where
  | vacant
  | bound
  | suspended
  | quarantined
  | draining
  deriving DecidableEq, Repr

/-- The eight per-slot counters (R32). -/
structure SlotCounters where
  admitted : Counter
  released : Counter
  withdrawn : Counter
  abortedHeld : Counter
  turnedAway : Counter
  sectorsReleased : Counter
  sectorsCompleted : Counter
  lateCompletions : Counter
  deriving DecidableEq, Repr

/-- The five values a SLOT record carries, and the baseline of the next DELTA (R140, R141). -/
structure SlotValues where
  balance : Int
  depth : Nat
  outstanding : Nat
  released : Nat
  completed : Nat
  deriving DecidableEq, Repr

/-- What the Usage Spool keeps for each slot (spec/08, "What the spool holds"). -/
structure SpoolSlot where
  batching : Nat
  periodReleased : Nat
  periodCompleted : Nat
  baseline : SlotValues
  compression : Nat
  fullNext : Bool
  deriving DecidableEq, Repr

/-- One share slot: the Directory's, the Scheduler's, the Store's and the Spool's parts of it. The two policy copies stand
in the two images. The depth is the length of `queue`, head first (R49). -/
structure Slot where
  state : SlotState
  address : Option FabAddr
  gen : Generation
  balance : Int
  outstanding : Nat
  releasedEpoch : Nat
  liftRemaining : Nat
  liftAmount : Nat
  queue : List HeldRecord
  admissionMark : Bool
  idleRun : Nat
  idleFlag : Bool
  violations : Nat
  counters : SlotCounters
  spool : SpoolSlot
  deriving DecidableEq, Repr

/-! ### Store, Scheduler, Tracker -/

/-- The completion codes of part-generated DONE frames (spec/01, "Completion codes"). -/
inductive DoneCode where
  | turnedAwayFull
  | turnedAwayQueue
  | withdrawn
  | quarantined
  | aborted
  | refusedUnlisted
  deriving DecidableEq, Repr

/-- The Exchange Store's lost-DONE counters, part counters 16 to 21 (R48). -/
structure LostDone where
  turnedAwayFull : Counter
  turnedAwayQueue : Counter
  withdrawn : Counter
  quarantined : Counter
  aborted : Counter
  refusedUnlisted : Counter
  deriving DecidableEq, Repr

/-- The Scheduler's part-wide state (spec/04, "What the Scheduler holds"). `holdTicks` is the hold countdown in pace
ticks, none when stopped (R77, log entry 26). -/
structure Scheduler where
  pie : Nat
  pieUsed : Nat
  ringFeed : SlotId
  ringLive : SlotId
  ringStudy : SlotId
  ringBulk : SlotId
  holdTicks : Option Nat
  refundsDiscarded : Counter
  deriving DecidableEq, Repr

/-- The Exchange Tracker: the released list, oldest release first, and its two counters (R83). -/
structure Tracker where
  released : List OpenRecord
  doneAnomalies : Counter
  orphaned : Counter
  deriving DecidableEq, Repr

/-! ### Rate Monitor (spec/06) -/

/-- The tracker's four states. -/
inductive TrackerState where
  | seeking
  | locked
  | forced
  | silent
  deriving DecidableEq, Repr

/-- The last-epoch record (R102). -/
structure LastEpoch where
  completed : Nat
  count : Nat
  latencySum : Nat
  holdSpan : Nat
  pieUsed : Nat
  pie : Nat
  saturated : Bool
  deriving DecidableEq, Repr

/-- The calibration record's status. -/
inductive CalStatus where
  | none
  | running
  | complete
  | cancelled
  deriving DecidableEq, Repr

/-- The calibration record (R113, R114). -/
structure Calibration where
  status : CalStatus
  requested : Nat
  firstEpoch : EpochNo
  run : Nat
  budget : Nat
  maxCompleted : Nat
  sumCompleted : Nat
  maxMeanLatency : Nat
  deriving DecidableEq, Repr

/-- The Rate Monitor (spec/06, "What the Monitor holds"). -/
structure Monitor where
  completed : Nat
  count : Nat
  latencySum : Nat
  answered : Bool
  last : LastEpoch
  state : TrackerState
  candidate : Option ProfileId
  run : Nat
  miss : Nat
  selected : Option ProfileId
  forced : Option ProfileId
  silentRun : Nat
  cal : Calibration
  deriving DecidableEq, Repr

/-! ### Pace Bank (spec/07) -/

/-- A channel's run state (spec/07, "Channels"). -/
inductive RunState where
  | stopped
  | running
  | stopping
  deriving DecidableEq, Repr

/-- A tick-counting channel: the epoch pair or the scan channel, with the prescale and reload it now runs at. -/
structure Channel where
  count : Nat
  run : RunState
  phase : Nat
  prescale : Prescale
  reload : Nat
  deriving DecidableEq, Repr

/-- CAL (R127): `armed` is the arming with its epoch count, `due` an expiry not yet taken by the Monitor (log entry 10). -/
structure CalChannel where
  count : Nat
  run : RunState
  reload : Nat
  armed : Option Nat
  due : Bool
  deriving DecidableEq, Repr

/-- What a meter's expiry reports: the bound slot, lift amount and lift epochs read at the expiry (R129, R130). -/
structure BurstReport where
  slot : SlotId
  liftAmount : Nat
  liftEpochs : Nat
  deriving DecidableEq, Repr

/-- A burst meter's channel (R129, R130): `due` lists the expiries not yet taken, oldest first (log entry 10). -/
structure MeterChannel where
  count : Nat
  run : RunState
  due : List BurstReport
  deriving DecidableEq, Repr

/-- The closing report: the three values of the closing epoch that the Scheduler hands the Monitor (R59). -/
structure ClosingReport where
  pie : Nat
  pieUsed : Nat
  backlog : Bool
  deriving DecidableEq, Repr

/-- The Pace Bank. `openLength` and `closingLength` are the lengths in ticks of the epoch in progress and of the one
before it (R124). `opened` is some where the Pace Bank, the Policy Stage and the Scheduler have taken a boundary whose close is
still to come, CAL's expiry being taken first: the closing report on its way to the Monitor (R59, R102, R114, log entry 35). -/
structure PaceBank where
  time : PaceTime
  epoch : EpochNo
  epochPair : Channel
  openLength : Nat
  closingLength : Nat
  opened : Option ClosingReport
  scan : Channel
  cal : CalChannel
  holdSpan : Nat
  meterA : MeterChannel
  meterB : MeterChannel
  deriving DecidableEq, Repr

/-! ### Usage Spool (spec/08) -/

/-- The spool's five states. -/
inductive SpoolState where
  | off
  | collecting
  | pre
  | post
  | frozen
  deriving DecidableEq, Repr

/-- The event kinds (spec/01, "Codes used in fields"). -/
inductive EventKind where
  | profileLock
  | profileUnlock
  | targetSilent
  | quarantine
  | burst
  | stale
  | overcommit
  | commitApplied
  | calibrationDone
  | trigger
  | reset
  deriving DecidableEq, Repr

/-- The closing summary the Monitor hands the spool (R102). -/
structure ClosingSummary where
  epoch : EpochNo
  pie : Nat
  pieUsed : Nat
  completed : Nat
  holdSpan : Nat
  state : TrackerState
  profile : Option ProfileId
  deriving DecidableEq, Repr

/-- A spool entry of one of the five kinds (spec/01, "Spool entries"). -/
inductive SpoolEntry where
  | epochSummary (c : ClosingSummary)
  | slotFull (slot : SlotId) (v : SlotValues)
  | slotDelta (slot : SlotId) (change : List Int)
  | event (kind : EventKind) (slot : Option SlotId) (value : BitVec 32) (epoch : EpochNo) (time : PaceTime)
  | timeMark (epoch : EpochNo) (time : PaceTime)
  deriving DecidableEq, Repr

/-- The spool's part-wide state; its per-slot state stands in the slots. -/
structure Spool where
  entries : List SpoolEntry
  state : SpoolState
  summaryCount : Nat
  markCount : Nat
  batchCount : Nat
  dropped : Counter
  ignored : Counter
  deriving DecidableEq, Repr

/-! ### Management Agent (spec/10) -/

/-- The notice kinds (spec/10, "Notices"). -/
inductive NoticeKind where
  | watermark
  | spoolFull
  | spoolFrozen
  | profileChange
  | targetSilent
  | quarantine
  | overcommit
  | starve
  | commitApplied
  | calibrationDone
  | turnedAway
  | batch
  deriving DecidableEq, Repr

/-- The scope of a soft reset (R169). -/
inductive ResetScope where
  | full
  | traffic
  deriving DecidableEq, Repr

/-- What the placement of a response completes besides its request: nothing, a change of management address (R159), or
a reset that is then carried out (R169). -/
inductive Completion where
  | plain
  | rename (address : FabAddr)
  | reset (scope : ResetScope)
  deriving DecidableEq, Repr

/-- A response that waits for origin space (R162). -/
structure WaitingResponse where
  frame : Frame
  completion : Completion
  deriving DecidableEq, Repr

/-- The Management Agent. `resetDue` is a reset whose response is placed and whose parts are not yet taken (R169). -/
structure Agent where
  address : FabAddr
  managers : List FabAddr
  buffer : List Frame
  waiting : Option WaitingResponse
  resetDue : Option ResetScope
  flags : BitVec 12
  droppedByList : Counter
  droppedByFull : Counter
  noticesLost : Counter
  deriving DecidableEq, Repr

end Sys2Proof.Machine
end

