-- ==== Sys2Proof/Machine/Operands.lean ====
section
/-! DEFINITION. Every field of the frames the part reads, and the building of the frames it makes: EtherType and VLAN tag
(R5), header check (R6), transport header and kind words (spec/01, "Frame and record layouts"), R18. -/

namespace Sys2Proof.Machine

/-! ### Reading a frame -/

/-- The VLAN tag's four bytes: the two bytes 0x8100 and the two that follow (R5). -/
def vlanTag (f : Frame) : Option (List Byte) :=
  if f.rest.take 2 = [0x81#8, 0x00#8] ∧ 4 ≤ f.rest.length then some (f.rest.take 4) else none

/-- The bytes from the EtherType on: past the VLAN tag where there is one (R5). -/
def afterTag (f : Frame) : List Byte :=
  match vlanTag f with
  | some _ => f.rest.drop 4
  | none => f.rest

/-- The EtherType, none for a frame too short to hold one (log entry 21). -/
def etherType (f : Frame) : Option (BitVec 16) :=
  if 2 ≤ (afterTag f).length then some (BitVec.ofNat 16 (beNat (afterTag f) 0 2)) else none

/-- A transport frame: its EtherType is the given transport type, and it has no second VLAN tag (R5). -/
def isTransport (transportType : BitVec 16) (f : Frame) : Bool :=
  decide (etherType f = some transportType) &&
    !((vlanTag f).isSome && decide (etherType f = some 0x8100#16))

/-- The bytes that follow the EtherType: the transport header, the body, and padding. -/
def payload (f : Frame) : List Byte := (afterTag f).drop 2

/-- Header byte 0: the kind code. -/
def kindCode (f : Frame) : Nat := byteAt (payload f) 0

/-- Header byte 1: the version. -/
def version (f : Frame) : Nat := byteAt (payload f) 1

/-- Header bytes 2..4: the destination fabric address. -/
def dstAddr (f : Frame) : FabAddr := BitVec.ofNat 24 (beNat (payload f) 2 3)

/-- Header bytes 5..7: the source fabric address. -/
def srcAddr (f : Frame) : FabAddr := BitVec.ofNat 24 (beNat (payload f) 5 3)

/-- Header bytes 8..9: the exchange tag, or the request id of an MREQ. -/
def tagOf (f : Frame) : Tag := BitVec.ofNat 16 (beNat (payload f) 8 2)

/-- Header bytes 10..11: the body length. -/
def bodyLength (f : Frame) : Nat := beNat (payload f) 10 2

/-- Byte 12: a COMMAND's operation, a DONE's completion code, an MREQ's request kind. -/
def word0 (f : Frame) : Nat := byteAt (payload f) 12

/-- Bytes 14..15: a COMMAND's length, a READY's amount, a DONE's sectors done, a HOLD's pause. -/
def word2 (f : Frame) : Nat := beNat (payload f) 14 2

/-- Bytes 12..15: a DATA frame's offset in sectors. -/
def dataOffset (f : Frame) : Nat := beNat (payload f) 12 4

/-- The body: as many bytes after the header as the body length says. -/
def body (f : Frame) : List Byte := ((payload f).drop 16).take (bodyLength f)

/-- The operation of a code (spec/01, "Kind codes and kind words"). -/
def opOfCode : Nat → Option Op
  | 1 => some .read
  | 2 => some .write
  | 3 => some .flush
  | 4 => some .admin
  | _ => none

/-- A COMMAND's operation and length are in range: 1..2048 for READ and WRITE, 0 for FLUSH and ADMIN (R6). -/
def commandFieldsOk (f : Frame) : Bool :=
  match opOfCode (word0 f) with
  | some .read => decide (1 ≤ word2 f ∧ word2 f ≤ 2048)
  | some .write => decide (1 ≤ word2 f ∧ word2 f ≤ 2048)
  | some .flush => decide (word2 f = 0)
  | some .admin => decide (word2 f = 0)
  | none => false

/-- The largest body of a kind: 9000 for DATA, 1024 for any other (R6). -/
def maxBody (f : Frame) : Nat := if kindCode f = 0x03 then 9000 else 1024

/-- The bytes after the header equal the body length, or exceed it as padding where the Ethernet payload is exactly 46
bytes (R6). -/
def bodyFits (f : Frame) : Bool :=
  decide ((payload f).length - 16 = bodyLength f) ||
    decide ((payload f).length = 46 ∧ bodyLength f ≤ (payload f).length - 16)

/-- The header check of R6 passes. -/
def headerOk (f : Frame) : Bool :=
  decide (16 ≤ (payload f).length) && decide (version f = 1) && decide (bodyLength f ≤ maxBody f) && bodyFits f &&
    (decide (kindCode f ≠ 0x01) || commandFieldsOk f)

/-- Sectors in a DATA body: the ceiling of its length over 512 (R86). -/
def dataSectors (f : Frame) : Nat := (bodyLength f + 511) / 512

/-! ### Building a frame (R18) -/

/-- A frame of the part's own: version 1, the given EtherType, optional VLAN tag bytes. -/
def buildFrame (ethDst ethSrc : MacAddr) (tag : Option (List Byte)) (transportType : BitVec 16) (bytes : List Byte) :
    Frame :=
  { ethDst := ethDst, ethSrc := ethSrc, rest := tag.getD [] ++ beBytes 2 transportType.toNat ++ bytes }

/-- The 16 bytes of a transport header. `word` is the four-byte kind word. -/
def headerBytes (kind : Nat) (dst src : FabAddr) (tag : Tag) (len : Nat) (word : List Byte) : List Byte :=
  BitVec.ofNat 8 kind :: 1#8 :: beBytes 3 dst.toNat ++ beBytes 3 src.toNat ++ beBytes 2 tag.toNat ++ beBytes 2 len ++ word

/-- The bytes given, followed by their CRC-16 (R18). -/
def withCrc (bytes : List Byte) : List Byte := bytes ++ beBytes 2 (crc16 bytes).toNat

/-- The wire code of a part-generated completion (spec/01, "Completion codes"). -/
def doneCodeByte : DoneCode → Byte
  | .turnedAwayFull => 0x81#8
  | .turnedAwayQueue => 0x82#8
  | .withdrawn => 0x83#8
  | .quarantined => 0x84#8
  | .aborted => 0x85#8
  | .refusedUnlisted => 0x86#8

/-- A part-generated DONE, addressed as a reply to the COMMAND it answers, with no body and 0 sectors done (R18). -/
def buildDone (transportType : BitVec 16) (cmd : Frame) (code : DoneCode) : Frame :=
  buildFrame cmd.ethSrc cmd.ethDst (vlanTag cmd) transportType
    (headerBytes 0x04 (srcAddr cmd) (dstAddr cmd) (tagOf cmd) 0 [doneCodeByte code, 0#8, 0#8, 0#8])

/-- An MRSP, addressed as a reply to the MREQ at Ethernet and fabric level, with the given source fabric address; the
request kind is echoed as received (R18, R163). -/
def buildMrsp (transportType : BitVec 16) (address : FabAddr) (req : Frame) (status : Byte) (detail : Nat)
    (fields : List Byte) : Frame :=
  buildFrame req.ethSrc req.ethDst (vlanTag req) transportType
    (withCrc (headerBytes 0x11 (srcAddr req) address (tagOf req) (fields.length + 2)
      (BitVec.ofNat 8 (word0 req) :: status :: beBytes 2 detail) ++ fields))

/-- The Ethernet broadcast address. -/
def broadcast : MacAddr := 0xFFFFFFFFFFFF#48

/-- The wire code of a notice kind (spec/01, "Codes used in fields"). -/
def NoticeKind.code : NoticeKind → Nat
  | .watermark => 0
  | .spoolFull => 1
  | .spoolFrozen => 2
  | .profileChange => 3
  | .targetSilent => 4
  | .quarantine => 5
  | .overcommit => 6
  | .starve => 7
  | .commitApplied => 8
  | .calibrationDone => 9
  | .turnedAway => 10
  | .batch => 11

/-- A NOTICE to a route's address: the risen kind, the latched flags as they stand, the epoch number (R18, R165; body
bytes 16..25 of spec/01, "Management frame bodies"). -/
def buildNotice (transportType : BitVec 16) (address route : FabAddr) (kind : NoticeKind) (flags : BitVec 12)
    (epoch : EpochNo) : Frame :=
  buildFrame broadcast Config.stationAddress none transportType
    (withCrc (headerBytes 0x12 route address 0#16 10 (beBytes 4 0) ++
      (BitVec.ofNat 8 kind.code :: 0#8 :: beBytes 2 flags.toNat ++ beBytes 4 epoch.toNat)))

/-! ### Reading a request (R163) -/

/-- The request kind code of a buffered MREQ. -/
def requestKind (f : Frame) : Nat := word0 f

/-- The first check of R163: the body holds no CRC, or the CRC computed over the header and the body before it differs. -/
def requestCorrupt (f : Frame) : Bool :=
  decide (bodyLength f < 2) ||
    decide ((crc16 ((payload f).take 16 ++ (body f).take (bodyLength f - 2))).toNat ≠ beNat (body f) (bodyLength f - 2) 2)

/-- The request kind codes of the request kinds table (spec/01). -/
def requestKindCodes : List Nat :=
  [0x01, 0x10, 0x11, 0x12, 0x13, 0x14, 0x15, 0x16, 0x17, 0x18, 0x20, 0x21, 0x22, 0x30, 0x31, 0x32, 0x33, 0x34, 0x40, 0x41,
    0x42, 0x50, 0x51, 0x52, 0x60, 0x61, 0x62, 0x70, 0x71, 0x72, 0x7F]

/-- The prescale of a code (spec/01, "Codes used in fields"). -/
def prescaleOfCode : Nat → Prescale
  | 0 => .div1
  | 1 => .div16
  | 2 => .div256
  | _ => .div4096

/-- The slot class of a code. -/
def classOfCode : Nat → SlotClass
  | 0 => .feed
  | 1 => .live
  | 2 => .study
  | _ => .bulk

/-- The spool mode of a code. -/
def spoolModeOfCode : Nat → SpoolMode
  | 0 => .off
  | 1 => .stop
  | 2 => .ring
  | 3 => .ringThenStop
  | 4 => .offThenRing
  | _ => .offThenStop

/-- A slot index of one byte, none above 127 (R19). -/
def slotOfByte (n : Nat) : Option SlotId := if h : n < 128 then some ⟨n, h⟩ else none

/-- A profile index of one byte, none above 15 (R110). -/
def profileOfByte (n : Nat) : Option ProfileId := if h : n < 16 then some ⟨n, h⟩ else none

/-- An optional field read as its presence flag and value (R150): absent when the flag is 0. -/
def optField (flag value : Nat) : Option Nat := if flag = 0 then none else some value

/-- A one-byte field whose 0xFF stands for off or none. -/
def offField (v : Nat) : Option Nat := if v = 0xFF then none else some v

/-- A field whose 0 stands for absent or off. -/
def zeroField (v : Nat) : Option Nat := if v = 0 then none else some v

end Sys2Proof.Machine
end

