-- ==== Sys2Proof/Machine/Defaults.lean ====
section
/-! DEFINITION. The values each part of the state takes at power-on, RST_N and a FULL reset (R35, R57, R81, R100, R118, R131,
R147, R149, R168). -/

namespace Sys2Proof.Machine

/-- Default slot policy (R30). -/
def defaultSlotPolicy : SlotPolicy :=
  { cls := .bulk, weight := 1, floor := 0, cap := 4096, ceiling := none, debtLimit := 2048, holdLimit := 32
    concurrency := 16, batching := none }

/-- Default part values (R149). -/
def defaultPartValues : PartValues :=
  { feedReserve := 64, unlisted := .adopt, target := none, transportType := 0x88B5#16, violationThreshold := 4
    staleLimit := 5000, orphanLimit := 50000, starveLimit := 2500, idleLimit := 10 }

/-- Default cost table (R66). -/
def defaultCostTable : CostTable :=
  { read := { multiplier := 8, overhead := 1, refundOnError := true }
    write := { multiplier := 12, overhead := 1, refundOnError := true }
    flush := { multiplier := 8, overhead := 16, refundOnError := false }
    admin := { multiplier := 8, overhead := 4, refundOnError := false } }

/-- Default class table (R64). -/
def defaultClassTable : ClassTable := { feed := some 2, live := some 4, study := some 64, bulk := none }

/-- Default profile entry (R104). -/
def defaultProfile : Profile := { valid := false, rateLow := 0, rateHigh := 0, latencyCeiling := 0, budget := 65535 }

/-- Default tracker parameters (R112). -/
def defaultTrackerParams : TrackerParams :=
  { saturation := 6, lockCount := 8, unlockCount := 3, silentCount := 50, fallbackBudget := 65535, probeBudget := 64 }

/-- Default meter settings (spec/07, "Burst meters"). -/
def defaultMeterSettings : MeterSettings := { binding := none, threshold := 256, liftAmount := 0, liftEpochs := 1 }

/-- Default pace settings (R131). -/
def defaultPaceSettings : PaceSettings :=
  { epochPrescale := .div1, epochReload := 200, scanPrescale := .div4096, scanReload := 25, scanEnable := true
    meterA := defaultMeterSettings, meterB := defaultMeterSettings }

/-- Default spool settings (R147). -/
def defaultSpoolSettings : SpoolSettings :=
  { mode := .off, summaryBatching := none, markSpacing := none, compression := none, triggerMask := 0#16
    postReserve := 512, watermark := 1536, stopOnWatermark := false, batchSlot := none, batchThreshold := 1024 }

/-- Default notice route (R168). -/
def defaultRoute : NoticeRoute := { address := none, mask := 0#16 }

/-- The default image (R149). -/
def defaultImage : Image :=
  { slots := Vector.replicate 128 defaultSlotPolicy, part := defaultPartValues, cost := defaultCostTable
    classes := defaultClassTable, profiles := Vector.replicate 16 defaultProfile, tracker := defaultTrackerParams
    pace := defaultPaceSettings, spool := defaultSpoolSettings, routeA := defaultRoute, routeB := defaultRoute }

/-- The Policy Stage after a reset (R149, R157). The pending digest has no stated value while the flag is clear: after
a reset it is 0, log entry 24. -/
def resetPolicy : PolicyStage :=
  { staged := defaultImage, active := defaultImage, commitPending := false, pendingDigest := 0#16 }

/-- All eight slot counters at 0 (R32). -/
def zeroSlotCounters : SlotCounters :=
  { admitted := 0, released := 0, withdrawn := 0, abortedHeld := 0, turnedAway := 0, sectorsReleased := 0
    sectorsCompleted := 0, lateCompletions := 0 }

/-- The spool's per-slot state after a reset (R147). -/
def resetSpoolSlot : SpoolSlot :=
  { batching := 0, periodReleased := 0, periodCompleted := 0
    baseline := { balance := 0, depth := 0, outstanding := 0, released := 0, completed := 0 }
    compression := 0, fullNext := true }

/-- A VACANT slot after a reset (R35). -/
def resetSlot : Slot :=
  { state := .vacant, address := none, gen := 0, balance := 0, outstanding := 0, releasedEpoch := 0, liftRemaining := 0
    liftAmount := 0, queue := [], admissionMark := false, idleRun := 0, idleFlag := false, violations := 0
    counters := zeroSlotCounters, spool := resetSpoolSlot }

/-- The slots after a reset: slot 0 BOUND, every other VACANT (R35). -/
def resetSlots : Vector Slot 128 :=
  (Vector.replicate 128 resetSlot).set 0 { resetSlot with state := .bound }

/-- A port with every counter at 0, its queue empty, its transmitter free and its turn at the forwarded queue (R12, R14,
R16), with the given link state. -/
def resetPort (link : LinkState) : PortSide :=
  { link := link, forwarded := [], turn := .forwarded, sending := none, received := 0, transmitted := 0
    egressDiscards := 0, forwardOverflow := 0, receiveErrors := 0 }

/-- The Sorter's counters after a reset (R11). -/
def resetSorter : Sorter := { malformed := 0, unscheduled := 0, unmatched := 0, misported := 0 }

/-- The lost-DONE counters after a reset (R57). -/
def resetLostDone : LostDone :=
  { turnedAwayFull := 0, turnedAwayQueue := 0, withdrawn := 0, quarantined := 0, aborted := 0, refusedUnlisted := 0 }

/-- The Scheduler after a reset (R81). -/
def resetScheduler : Scheduler :=
  { pie := 65535, pieUsed := 0, ringFeed := 127, ringLive := 127, ringStudy := 127, ringBulk := 127, holdTicks := none
    refundsDiscarded := 0 }

/-- The Tracker after a reset (R100). -/
def resetTracker : Tracker := { released := [], doneAnomalies := 0, orphaned := 0 }

/-- The empty calibration record (R118). -/
def resetCalibration : Calibration :=
  { status := .none, requested := 0, firstEpoch := 0, run := 0, budget := 0, maxCompleted := 0, sumCompleted := 0
    maxMeanLatency := 0 }

/-- The Rate Monitor after a reset (R118). -/
def resetMonitor : Monitor :=
  { completed := 0, count := 0, latencySum := 0, answered := false
    last := { completed := 0, count := 0, latencySum := 0, holdSpan := 0, pieUsed := 0, pie := 0, saturated := false }
    state := .seeking, candidate := none, run := 0, miss := 0, selected := none, forced := none, silentRun := 0
    cal := resetCalibration }

/-- A meter after a reset: STOPPED (R131). -/
def resetMeter : MeterChannel := { count := 256, run := .stopped, due := [] }

/-- The Pace Bank while reset lasts: times 0 and no channel running. -/
def heldPace : PaceBank :=
  { time := 0, epoch := 0
    epochPair := { count := 200, run := .stopped, phase := 0, prescale := .div1, reload := 200 }
    openLength := 200, closingLength := 200, opened := none
    scan := { count := 25, run := .stopped, phase := 0, prescale := .div4096, reload := 25 }
    cal := { count := 0, run := .stopped, reload := 0, armed := none, due := false }
    holdSpan := 0, meterA := resetMeter, meterB := resetMeter }

/-- The Pace Bank when reset ends: the epoch pair and the scan channel loaded and started (R131). -/
def startedPace : PaceBank :=
  { heldPace with
    epochPair := { heldPace.epochPair with run := .running }
    scan := { heldPace.scan with run := .running } }

/-- The spool after a reset (R147). -/
def resetSpool : Spool :=
  { entries := [], state := .off, summaryCount := 0, markCount := 0, batchCount := 0, dropped := 0, ignored := 0 }

/-- The management address for a strap value: FDF000 plus the straps (R158). -/
def strapAddress (straps : BitVec 4) : FabAddr := 0xFDF000#24 + straps.setWidth 24

/-- The Agent after power-on or RST_N, with the given management address (R158, R160, R161, R168). -/
def resetAgent (address : FabAddr) : Agent :=
  { address := address, managers := [], buffer := [], waiting := none, resetDue := none, flags := 0#12
    droppedByList := 0, droppedByFull := 0, noticesLost := 0 }

end Sys2Proof.Machine
end

