-- ==== Sys2Proof/Machine/State.lean ====
section
/-! DEFINITION. The whole state of the part as plain data, the reasons a step can stop, and the state right after reset. -/

namespace Sys2Proof.Machine

/-- The state. Every piece is named in INVENTORY.md, "State", with the rule that gives it. -/
structure State where
  /-- RST_N is low, or power is on and reset has not ended (R3). -/
  inReset : Bool
  portF : PortSide
  portT : PortSide
  /-- Port F's origin queue (R15). -/
  originQueue : List Frame
  originDiscards : Counter
  /-- Port T's release slot (R13). -/
  releaseSlot : Option Frame
  holdConsumed : Counter
  sorter : Sorter
  slots : Vector Slot 128
  lostDone : LostDone
  sched : Scheduler
  tracker : Tracker
  monitor : Monitor
  pace : PaceBank
  spool : Spool
  policy : PolicyStage
  agent : Agent
  /-- The MODEL's own: how many free values the tick has used (log entry 12). -/
  freeChoices : Nat
  /-- The commands that wait, first in, first out. -/
  pending : List Instr
  deriving DecidableEq, Repr

/-- Reasons the part stops with a fault. The manual gives the part none, so there is no constructor and no step faults
(INVENTORY.md, "Faults"): nothing is lost, and nothing unsafe rests on it. -/
inductive Fault where
  deriving DecidableEq, Repr

/-- Reasons a command is refused. -/
inductive Refusal where
  /-- Raised by `exec` alone, for a command that has no meaning yet; safe. No arm raises it now. -/
  | notModelled (mnemonic : String)
  deriving DecidableEq, Repr

/-- Every block at its power-on state while reset lasts (R3, R35, R57, R81, R100, R118, R131, R147, R149, R168). The link
states and the management address are sampled when reset ends; until then DOWN and FDF000 stand for them (log entry 14). -/
def State.held (freeChoices : Nat) (pending : List Instr) : State :=
  { inReset := true, portF := resetPort .down, portT := resetPort .down, originQueue := [], originDiscards := 0
    releaseSlot := none, holdConsumed := 0, sorter := resetSorter, slots := resetSlots, lostDone := resetLostDone
    sched := resetScheduler, tracker := resetTracker, monitor := resetMonitor, pace := heldPace, spool := resetSpool
    policy := resetPolicy, agent := resetAgent 0xFDF000#24, freeChoices := freeChoices, pending := pending }

/-- The machine right after reset: reset has ended with both links UP and a strap value of 0 (log entry 1), so the link
states are set from the inputs (R2), the management address from the straps (R158), and the epoch pair and the scan
channel are started (R131). -/
def State.reset : State :=
  { State.held 0 [] with
    inReset := false, portF := resetPort .up, portT := resetPort .up, pace := startedPace
    agent := resetAgent (strapAddress 0#4) }

end Sys2Proof.Machine
end

