-- ==== Sys2Proof/Machine/Ops.lean ====
section
/-! DEFINITION. The named reads and writes of the state that every block's operations are made of: slots, ports, forwarded
queues, the origin queue, the active policy. -/

namespace Sys2Proof.Machine

/-! ### Slots -/

/-- Slot `i`. -/
def State.slot (s : State) (i : SlotId) : Slot := s.slots[i]

/-- Writes slot `i` whole. -/
def State.setSlot (s : State) (i : SlotId) (v : Slot) : State := { s with slots := s.slots.set i.val v }

/-- Changes slot `i` by a function. -/
def State.modSlot (s : State) (i : SlotId) (g : Slot → Slot) : State := s.setSlot i (g (s.slot i))

/-- Changes every slot by a function of its index and contents. -/
def State.mapSlots (s : State) (g : SlotId → Slot → Slot) : State :=
  { s with slots := s.slots.mapFinIdx fun i x h => g ⟨i, h⟩ x }

/-- The 128 slot indexes in rising order. -/
def allSlots : List SlotId := List.finRange 128

/-- The active policy of slot `i` (R30). -/
def State.slotPolicy (s : State) (i : SlotId) : SlotPolicy := s.policy.active.slots[i]

/-- Changes the counters of slot `i` (R32). -/
def State.countSlot (s : State) (i : SlotId) (g : SlotCounters → SlotCounters) : State :=
  s.modSlot i fun x => { x with counters := g x.counters }

/-- The depth of a slot's hold queue (R49). -/
def Slot.depth (x : Slot) : Nat := x.queue.length

/-! ### Counts and clamps -/

/-- A sum that stops at `bound` ("saturating", spec/00, "Arithmetic"). -/
def satAdd (bound a b : Nat) : Nat := min bound (a + b)

/-- The largest value of a 32-bit saturating quantity. -/
def max32 : Nat := 4294967295

/-- A balance raised by an amount, clamped to the cap (R63, R73, R75). -/
def raiseBalance (cap : Nat) (balance : Int) (amount : Nat) : Int := min (cap : Int) (balance + amount)

/-- A balance lowered by a cost, saturating at -32768 (R72). -/
def chargeBalance (balance : Int) (cost : Nat) : Int := max (-32768) (balance - cost)

/-! ### Ports -/

/-- The side of the state that belongs to a port. -/
def State.port (s : State) : Port → PortSide
  | .f => s.portF
  | .t => s.portT

/-- Writes a port's side. -/
def State.setPort (s : State) (p : Port) (x : PortSide) : State :=
  match p with
  | .f => { s with portF := x }
  | .t => { s with portT := x }

/-- Changes a port's side by a function. -/
def State.modPort (s : State) (p : Port) (g : PortSide → PortSide) : State := s.setPort p (g (s.port p))

/-- The port opposite (spec/01, "The two ports"). -/
def oppositePort : Port → Port
  | .f => .t
  | .t => .f

/-- The most frames a forwarded queue holds (R12). -/
def forwardedCapacity : Nat := 128

/-- Places a frame in the forwarded queue of port `p`, or discards it and counts a forward overflow where the queue is
full (R12). -/
def forward (p : Port) (f : Frame) (s : State) : State :=
  s.modPort p fun x =>
    if x.forwarded.length < forwardedCapacity then { x with forwarded := x.forwarded ++ [f] }
    else { x with forwardOverflow := x.forwardOverflow + 1 }

/-! ### The origin queue -/

/-- The most frames the origin queue holds (R15). -/
def originCapacity : Nat := 64

/-- The origin queue has a place free (R15). -/
def originHasSpace (s : State) : Bool := decide (s.originQueue.length < originCapacity)

/-- Appends a frame to the origin queue; used where `originHasSpace` holds. -/
def pushOrigin (f : Frame) (s : State) : State := { s with originQueue := s.originQueue ++ [f] }

/-- One more lost DONE of a code (R48). -/
def countLostDone (code : DoneCode) (x : LostDone) : LostDone :=
  match code with
  | .turnedAwayFull => { x with turnedAwayFull := x.turnedAwayFull + 1 }
  | .turnedAwayQueue => { x with turnedAwayQueue := x.turnedAwayQueue + 1 }
  | .withdrawn => { x with withdrawn := x.withdrawn + 1 }
  | .quarantined => { x with quarantined := x.quarantined + 1 }
  | .aborted => { x with aborted := x.aborted + 1 }
  | .refusedUnlisted => { x with refusedUnlisted := x.refusedUnlisted + 1 }

/-- The active transport type (R11). -/
def State.transportType (s : State) : BitVec 16 := s.policy.active.part.transportType

/-- Places the part's DONE of a code in reply to a COMMAND, or counts it lost where the origin queue is full (R48). -/
def placeDone (code : DoneCode) (cmd : Frame) (s : State) : State :=
  if originHasSpace s then pushOrigin (buildDone s.transportType cmd code) s
  else { s with lostDone := countLostDone code s.lostDone }

/-! ### Live records (R37, R40) -/

/-- The number of HELD records. -/
def heldCount (s : State) : Nat := (allSlots.map fun i => (s.slot i).depth).sum

/-- The number of live records. -/
def liveCount (s : State) : Nat := s.tracker.released.length + heldCount s

/-- The pool's size (R37). -/
def poolSize : Nat := 1024

/-- The free count: 1024 less the live records (R37). -/
def freeCount (s : State) : Nat := poolSize - liveCount s

/-- The key of a frame travelling from initiator to target (Port F) or back (Port T) (R4). -/
def keyOf (p : Port) (f : Frame) : ExchangeKey :=
  match p with
  | .f => { initiator := srcAddr f, tag := tagOf f }
  | .t => { initiator := dstAddr f, tag := tagOf f }

/-- The slot whose hold queue holds the key. -/
def heldSlot (s : State) (k : ExchangeKey) : Option SlotId :=
  allSlots.find? fun i => (s.slot i).queue.any fun h => decide (h.ex.key = k)

/-- The released record of a key. -/
def openRecord (s : State) (k : ExchangeKey) : Option OpenRecord :=
  s.tracker.released.find? fun r => decide (r.ex.key = k)

/-- The key is that of a live record (R40). -/
def keyLive (s : State) (k : ExchangeKey) : Bool := (heldSlot s k).isSome || (openRecord s k).isSome

/-- The generation test: the record's generation is its slot's, and the slot is not VACANT (R29). -/
def generationTest (s : State) (ex : Exchange) : Bool :=
  decide (ex.gen = (s.slot ex.slot).gen) && decide ((s.slot ex.slot).state ≠ .vacant)

/-- The part's total outstanding: the sum over the slots (R76). -/
def totalOutstanding (s : State) : Nat := (allSlots.map fun i => (s.slot i).outstanding).sum

/-- The target hold is in force: the countdown runs, or Port T's link is DOWN (R78). -/
def holdInForce (s : State) : Bool := s.sched.holdTicks.isSome || decide (s.portT.link = .down)

end Sys2Proof.Machine
end

