-- ==== Sys2Proof/Machine/Flags.lean ====
section
/-! DEFINITION. The twelve latched notice flags and the NOTICE frames a raise sends (R165, R166, R167). -/

namespace Sys2Proof.Machine

/-- The flag of a kind. -/
def noticeFlag (flags : BitVec 12) (k : NoticeKind) : Bool := flags.getLsbD k.code

/-- The flags with that of a kind set. -/
def setNoticeFlag (flags : BitVec 12) (k : NoticeKind) : BitVec 12 := flags ||| (1#12 <<< k.code)

/-- One route's part of a raise: a NOTICE frame where the route has an address and its mask includes the kind, placed at
once or counted lost (R165, R166). -/
def noticeOnRoute (r : NoticeRoute) (k : NoticeKind) (s : State) : State :=
  match r.address with
  | none => s
  | some a =>
    if r.mask.getLsbD k.code then
      if originHasSpace s then pushOrigin (buildNotice s.transportType s.agent.address a k s.agent.flags s.pace.epoch) s
      else { s with agent := { s.agent with noticesLost := s.agent.noticesLost + 1 } }
    else s

/-- A raise of a notice condition, taken as one event on its flag: nothing where the flag is set; otherwise the flag is
set, then route A's frame, then route B's (R165). No removal from the origin queue falls between the two placements: the
model's choice (R166, log entry 30). -/
def raiseNotice (k : NoticeKind) (s : State) : State :=
  if noticeFlag s.agent.flags k then s
  else
    let s1 := { s with agent := { s.agent with flags := setNoticeFlag s.agent.flags k } }
    noticeOnRoute s1.policy.active.routeB k (noticeOnRoute s1.policy.active.routeA k s1)

end Sys2Proof.Machine
end

