-- ==== Sys2Proof/Machine/Spool.lean ====
section
/-! DEFINITION. The Usage Spool: taking offered records, triggers, the boundary step, its part of a commit (R133 to R148), and
the 16-byte entries (spec/01, "Spool entries"). -/

namespace Sys2Proof.Machine

/-! ### Codes and entry bytes -/

/-- The wire code of an event kind (spec/01, "Codes used in fields"). -/
def EventKind.code : EventKind → Nat
  | .profileLock => 1
  | .profileUnlock => 2
  | .targetSilent => 3
  | .quarantine => 4
  | .burst => 5
  | .stale => 6
  | .overcommit => 7
  | .commitApplied => 8
  | .calibrationDone => 9
  | .trigger => 10
  | .reset => 11

/-- The wire code of a tracker state. -/
def TrackerState.code : TrackerState → Nat
  | .seeking => 0
  | .locked => 1
  | .forced => 2
  | .silent => 3

/-- An index byte, 0xFF for none. -/
def indexByte {n : Nat} : Option (Fin n) → Byte
  | none => 0xFF#8
  | some i => BitVec.ofNat 8 i.val

/-- Five signed 12-bit changes packed from the most significant bit, in eight bytes (SLOT DELTA). -/
def packDelta (change : List Int) : List Byte :=
  let c (k : Nat) : Nat := twosComplement 12 (change.getD k 0)
  beBytes 8 ((c 0 * 2 ^ 48 + c 1 * 2 ^ 36 + c 2 * 2 ^ 24 + c 3 * 2 ^ 12 + c 4) * 2 ^ 4)

/-- The 16 bytes of an entry (spec/01, "Spool entries"). -/
def SpoolEntry.bytes : SpoolEntry → List Byte
  | .epochSummary c =>
    1#8 :: BitVec.ofNat 8 c.state.code :: indexByte c.profile :: beBytes 2 c.epoch.toNat ++ beBytes 2 c.pie ++
      beBytes 3 c.pieUsed ++ beBytes 3 (min c.completed 16777215) ++ beBytes 2 c.holdSpan ++ beBytes 1 0
  | .slotFull i v =>
    2#8 :: BitVec.ofNat 8 i.val :: beBytes 2 (twosComplement 16 v.balance) ++ beBytes 2 v.depth ++
      beBytes 1 v.outstanding ++ beBytes 4 v.released ++ beBytes 4 v.completed ++ beBytes 1 0
  | .slotDelta i change => 3#8 :: BitVec.ofNat 8 i.val :: packDelta change ++ beBytes 6 0
  | .event k i v e t =>
    4#8 :: BitVec.ofNat 8 k.code :: indexByte i :: 0#8 :: beBytes 4 v.toNat ++ beBytes 4 e.toNat ++ beBytes 4 t.toNat
  | .timeMark e t => 5#8 :: beBytes 3 0 ++ beBytes 4 e.toNat ++ beBytes 4 t.toNat ++ beBytes 4 0

/-! ### Taking a record -/

/-- The active spool settings. -/
def State.spoolSettings (s : State) : SpoolSettings := s.policy.active.spool

/-- Changes the spool's part-wide state by a function. -/
def State.modSpool (s : State) (g : Spool → Spool) : State := { s with spool := g s.spool }

/-- The capacity under given settings: 2048, or the watermark when stop-on-watermark is set (R133). -/
def capacityOf (c : SpoolSettings) : Nat := if c.stopOnWatermark then c.watermark else 2048

/-- The first spool state of a mode (spec/08, "Modes and spool states"). -/
def firstState : SpoolMode → SpoolState
  | .off => .off
  | .stop => .collecting
  | .ring => .collecting
  | .ringThenStop => .pre
  | .offThenRing => .pre
  | .offThenStop => .pre

/-- What the spool does with an offered record (R134). -/
inductive SpoolBehaviour where
  | notWritten
  | stop
  | ring
  | frozen
  deriving DecidableEq, Repr

/-- The behaviour of a spool state under a mode (R134). A pair that no mode's sequence has writes nothing (log entry 29). -/
def spoolBehaviour : SpoolState → SpoolMode → SpoolBehaviour
  | .off, _ => .notWritten
  | .frozen, _ => .frozen
  | .collecting, .stop => .stop
  | .collecting, .ring => .ring
  | .pre, .ringThenStop => .ring
  | .post, .ringThenStop => .stop
  | .post, .offThenStop => .stop
  | .post, .offThenRing => .ring
  | .collecting, _ => .notWritten
  | .pre, _ => .notWritten
  | .post, _ => .notWritten

/-- Replaces the entries by a take, raising WATERMARK where occupancy goes from below the watermark to it or above
(R133). -/
def putEntries (es : List SpoolEntry) (s : State) : State :=
  let s1 := s.modSpool fun x => { x with entries := es }
  if s.spool.entries.length < s.spoolSettings.watermark ∧ s.spoolSettings.watermark ≤ es.length then
    raiseNotice .watermark s1
  else s1

/-- In POST under the stop behaviour, a spool at capacity becomes FROZEN and raises SPOOL FROZEN (R135). -/
def freezeIfFull (s : State) : State :=
  if s.spool.state = .post ∧ spoolBehaviour .post s.spoolSettings.mode = .stop ∧
      capacityOf s.spoolSettings ≤ s.spool.entries.length then
    raiseNotice .spoolFrozen (s.modSpool fun x => { x with state := .frozen })
  else s

/-- Counts a dropped record (R134, R135). -/
def countDropped (s : State) : State := s.modSpool fun x => { x with dropped := x.dropped + 1 }

/-- Offers one record: the state after it is taken, and whether it was written into the entries (R134, R135, R136). A take that
crosses the watermark and fills POST raises WATERMARK first, then SPOOL FROZEN: the model's choice (log entry 30). -/
def offerRecord (e : SpoolEntry) (s : State) : State × Bool :=
  match spoolBehaviour s.spool.state s.spoolSettings.mode with
  | .notWritten => (s, false)
  | .frozen => (countDropped s, false)
  | .stop =>
    if s.spool.entries.length < capacityOf s.spoolSettings then
      (freezeIfFull (putEntries (s.spool.entries ++ [e]) s), true)
    else (raiseNotice .spoolFull (countDropped s), false)
  | .ring =>
    if s.spool.entries.length < capacityOf s.spoolSettings then (putEntries (s.spool.entries ++ [e]) s, true)
    else (putEntries (s.spool.entries.drop 1 ++ [e]) s, true)

/-! ### Triggers and events -/

/-- An EVENT record with the epoch number and pace time in force when the spool takes it (R142). -/
def eventEntry (k : EventKind) (slot : Option SlotId) (value : BitVec 32) (s : State) : SpoolEntry :=
  .event k slot value s.pace.epoch s.pace.time

/-- The places a RING THEN STOP trigger leaves free at least: the larger of 1 and the lesser of the post reserve and the
capacity (R138). -/
def triggerRoom (c : SpoolSettings) : Nat := max 1 (min c.postReserve (capacityOf c))

/-- Entries kept by a RING THEN STOP trigger: the newest that leave the room of `triggerRoom` (R138). -/
def triggerKeep (c : SpoolSettings) (es : List SpoolEntry) : List SpoolEntry :=
  es.drop (es.length - (capacityOf c - triggerRoom c))

/-- A trigger taken in PRE: the discard, the change to POST, and the TRIGGER record (R138). `code` is the triggering
record's event kind code, 0 for the request. -/
def takeTrigger (slot : Option SlotId) (code : Nat) (s : State) : State :=
  let s1 := s.modSpool fun x =>
    { x with
      entries := if s.spoolSettings.mode = .ringThenStop then triggerKeep s.spoolSettings x.entries else x.entries
      state := .post }
  (offerRecord (eventEntry .trigger slot (BitVec.ofNat 32 (code * 2 ^ 24)) s1) s1).1

/-- A trigger offered: taken in PRE, otherwise ignored with a count (R137). -/
def offerTrigger (slot : Option SlotId) (code : Nat) (s : State) : State :=
  if s.spool.state = .pre then takeTrigger slot code s
  else s.modSpool fun x => { x with ignored := x.ignored + 1 }

/-- Offers an EVENT record, then the trigger where its kind is in the active trigger mask (R137, R142). -/
def offerEvent (k : EventKind) (slot : Option SlotId) (value : BitVec 32) (s : State) : State :=
  let s1 := (offerRecord (eventEntry k slot value s) s).1
  if s1.spoolSettings.triggerMask.getLsbD k.code then offerTrigger slot k.code s1 else s1

/-! ### The boundary step -/

/-- The five values of a slot's next record (R140). -/
def slotValues (x : Slot) : SlotValues :=
  { balance := x.balance, depth := x.depth, outstanding := x.outstanding, released := x.spool.periodReleased
    completed := x.spool.periodCompleted }

/-- The five changes of a DELTA from a baseline (R141). -/
def slotChanges (base v : SlotValues) : List Int :=
  [v.balance - base.balance, (v.depth : Int) - base.depth, (v.outstanding : Int) - base.outstanding,
    (v.released : Int) - base.released, (v.completed : Int) - base.completed]

/-- The record is FULL: compression off, full-next set, compression count 0, or a change outside -2048..2047 (R141). -/
def slotRecordFull (compression : Option Nat) (x : SpoolSlot) (v : SlotValues) : Bool :=
  compression.isNone || x.fullNext || decide (x.compression = 0) ||
    (slotChanges x.baseline v).any fun d => decide (d < -2048 ∨ 2047 < d)

/-- A slot's spool state after its record is formed: periods 0, the record's values the new baseline (R140, R141). With
compression off the FULL record keeps the compression count and clears the full-next flag: the model's choice (log entry
33). -/
def afterRecord (compression : Option Nat) (full : Bool) (v : SlotValues) (x : SpoolSlot) : SpoolSlot :=
  { x with
    periodReleased := 0
    periodCompleted := 0
    baseline := v
    compression :=
      match compression with
      | none => x.compression
      | some n => if full then 1 % n else (x.compression + 1) % n
    fullNext := if full then false else x.fullNext }

/-- A written SLOT record of the batch slot raises the batch count; at the threshold it returns to 0 and BATCH is raised
(R143). -/
def countBatch (i : SlotId) (s : State) : State :=
  if s.spoolSettings.batchSlot = some i then
    if s.spool.batchCount + 1 = s.spoolSettings.batchThreshold then
      raiseNotice .batch (s.modSpool fun x => { x with batchCount := 0 })
    else s.modSpool fun x => { x with batchCount := x.batchCount + 1 }
  else s

/-- Forms and offers the due record of slot `i` (R140, R141, R143). BATCH is raised after what the take raises: the model's
choice (log entry 30). -/
def offerSlotRecord (i : SlotId) (s : State) : State :=
  let x := s.slot i
  let v := slotValues x
  let full := slotRecordFull s.spoolSettings.compression x.spool v
  let entry := if full then SpoolEntry.slotFull i v else .slotDelta i (slotChanges x.spool.baseline v)
  let s1 := s.modSlot i fun y => { y with spool := afterRecord s.spoolSettings.compression full v y.spool }
  let s2 := (offerRecord entry s1).1
  if (offerRecord entry s1).2 then countBatch i s2
  else s2.modSlot i fun y => { y with spool := { y.spool with fullNext := true } }

/-- The per-slot part of the boundary step: only a BOUND slot with batching on advances its count, and a count at 2^k or
above makes its record due (R140). -/
def spoolSlotStep (s : State) (i : SlotId) : State :=
  match (s.slotPolicy i).batching with
  | none => s
  | some k =>
    if (s.slot i).state = .bound then
      if 2 ^ k ≤ (s.slot i).spool.batching + 1 then
        offerSlotRecord i (s.modSlot i fun y => { y with spool := { y.spool with batching := 0 } })
      else s.modSlot i fun y => { y with spool := { y.spool with batching := y.spool.batching + 1 } }
    else s

/-- The summary part of the boundary step, and whether a summary was written (R139). -/
def spoolSummaryStep (c : ClosingSummary) (s : State) : State × Bool :=
  match s.spoolSettings.summaryBatching with
  | none => (s, false)
  | some k =>
    if 2 ^ k ≤ s.spool.summaryCount + 1 then
      offerRecord (.epochSummary c) (s.modSpool fun x => { x with summaryCount := 0 })
    else (s.modSpool fun x => { x with summaryCount := x.summaryCount + 1 }, false)

/-- The mark count after a step, kept in its range 0..31 while spacing is off (R139, log entry 17). -/
def nextMarkCount (written : Bool) (n : Nat) : Nat := if written then min 31 (n + 1) else n

/-- The time mark part of the boundary step (R139). A spacing of 32 is reached from 31, so the test is made on the count
before it is kept in range. -/
def spoolMarkStep (written : Bool) (s : State) : State :=
  match s.spoolSettings.markSpacing with
  | none => s.modSpool fun x => { x with markCount := nextMarkCount written x.markCount }
  | some d =>
    if d ≤ s.spool.markCount + (if written then 1 else 0) then
      (offerRecord (.timeMark s.pace.epoch s.pace.time) (s.modSpool fun x => { x with markCount := 0 })).1
    else s.modSpool fun x => { x with markCount := nextMarkCount written x.markCount }

/-- The boundary step: the summary, every slot in index order, the time mark (R139). -/
def spoolBoundaryStep (c : ClosingSummary) (s : State) : State :=
  let r := spoolSummaryStep c s
  spoolMarkStep r.2 (allSlots.foldl spoolSlotStep r.1)

/-! ### Reports from other blocks -/

/-- A release adds its length to the slot's period released (R140). -/
def addPeriodReleased (n : Nat) (x : SpoolSlot) : SpoolSlot :=
  { x with periodReleased := satAdd max32 x.periodReleased n }

/-- A counted close adds its sectors done to the slot's period completed (R140). -/
def addPeriodCompleted (n : Nat) (x : SpoolSlot) : SpoolSlot :=
  { x with periodCompleted := satAdd max32 x.periodCompleted n }

/-- BIND restarts a slot's period and sets its full-next flag (R140, R141). -/
def bindSpoolSlot (x : SpoolSlot) : SpoolSlot :=
  { x with batching := 0, periodReleased := 0, periodCompleted := 0, fullNext := true }

/-- Sets the full-next flag of every slot (R141). -/
def setFullNext (s : State) : State :=
  s.mapSlots fun _ x => { x with spool := { x.spool with fullNext := true } }

/-! ### The apply of a commit (R146). The active image is already the new one; `old` is the one it replaced. -/

/-- A changed mode empties the spool and enters the new mode's first state. -/
def applySpoolMode (old : SpoolSettings) (s : State) : State :=
  if s.spoolSettings.mode = old.mode then s
  else setFullNext (s.modSpool fun x => { x with entries := [], state := firstState s.spoolSettings.mode })

/-- A changed compression sets every full-next flag. -/
def applySpoolCompression (old : SpoolSettings) (s : State) : State :=
  if s.spoolSettings.compression = old.compression then s else setFullNext s

/-- Changed counts' settings: the counts become 0. -/
def applySpoolCounts (old : SpoolSettings) (s : State) : State :=
  s.modSpool fun x =>
    { x with
      summaryCount := if s.spoolSettings.summaryBatching = old.summaryBatching then x.summaryCount else 0
      markCount := if s.spoolSettings.markSpacing = old.markSpacing then x.markCount else 0
      batchCount :=
        if s.spoolSettings.batchSlot = old.batchSlot ∧ s.spoolSettings.batchThreshold = old.batchThreshold then x.batchCount
        else 0 }

/-- A slot whose batching changed restarts its batching count. -/
def applySpoolBatching (old : Image) (s : State) : State :=
  s.mapSlots fun i x =>
    if (s.slotPolicy i).batching = (old.slots[i]).batching then x else { x with spool := { x.spool with batching := 0 } }

/-- A lowered capacity discards the oldest entries down to it, and may freeze a spool in POST under stop. -/
def applySpoolCapacity (old : SpoolSettings) (s : State) : State :=
  if capacityOf s.spoolSettings < capacityOf old then
    freezeIfFull (s.modSpool fun x => { x with entries := x.entries.drop (x.entries.length - capacityOf s.spoolSettings) })
  else s

/-- A watermark lowered to or below occupancy raises WATERMARK where occupancy stood below the old one (R133). `occupancy`
is the number of entries before the apply. -/
def applySpoolWatermark (old : SpoolSettings) (occupancy : Nat) (s : State) : State :=
  if s.spoolSettings.watermark < old.watermark ∧ occupancy < old.watermark ∧
      s.spoolSettings.watermark ≤ s.spool.entries.length then
    raiseNotice .watermark s
  else s

/-- The spool's part of an apply (R146). Where it both freezes and lowers the watermark to the occupancy, SPOOL FROZEN is
raised first, then WATERMARK: the model's choice (log entry 30). -/
def applySpool (old : Image) (s : State) : State :=
  applySpoolWatermark old.spool s.spool.entries.length
    (applySpoolCapacity old.spool
      (applySpoolBatching old (applySpoolCounts old.spool (applySpoolCompression old.spool (applySpoolMode old.spool s)))))

end Sys2Proof.Machine
end

