-- ==== Sys2Proof/Machine/Directory.lean ====
section
/-! DEFINITION. The Initiator Directory's operations: the address map, violations and quarantine, the end of a drain, idle
marking (R20 to R34). -/

namespace Sys2Proof.Machine

/-- The active part values. -/
def State.part (s : State) : PartValues := s.policy.active.part

/-- The address map's answer: the slot from 1 to 127 that is not VACANT and holds the address (R20). -/
def mapLookup (s : State) (a : FabAddr) : Option SlotId :=
  allSlots.find? fun i => decide (i ≠ 0) && decide ((s.slot i).state ≠ .vacant) && decide ((s.slot i).address = some a)

/-- The slot of a COMMAND's source: its mapped slot; for an unlisted one slot 0 under ADOPT, none under REFUSE (R20, R21). -/
def slotFor (s : State) (a : FabAddr) : Option SlotId :=
  match mapLookup s a with
  | some i => some i
  | none =>
    match s.part.unlisted with
    | .adopt => some 0
    | .refuse => none

/-- A slot becomes QUARANTINED: its state, then the QUARANTINE record, then the notice (R27). -/
def quarantine (i : SlotId) (s : State) : State :=
  raiseNotice .quarantine
    (offerEvent .quarantine (some i) (BitVec.ofNat 32 (s.slot i).violations) (s.modSlot i fun x => { x with state := .quarantined }))

/-- A violation report against a slot: counted in every state but VACANT, saturating at 255; a BOUND or SUSPENDED slot at
or above the active threshold is quarantined (R27, R28). -/
def reportViolation (i : SlotId) (s : State) : State :=
  if (s.slot i).state = .vacant then s
  else
    let s1 := s.modSlot i fun x => { x with violations := satAdd 255 x.violations 1 }
    if ((s.slot i).state = .bound ∨ (s.slot i).state = .suspended) ∧
        s.part.violationThreshold ≤ (s1.slot i).violations then quarantine i s1
    else s1

/-- A DRAINING slot becomes VACANT: address unmapped, balance 0, the rest kept (R25). -/
def drainedSlot (x : Slot) : Slot := { x with state := .vacant, address := none, balance := 0 }

/-- The end of a drain, taken where the slot is DRAINING and its outstanding is 0 (R25). -/
def completeDrain (i : SlotId) (s : State) : State :=
  if (s.slot i).state = .draining ∧ (s.slot i).outstanding = 0 then s.modSlot i drainedSlot else s

/-- What one slot's part of the idle marking does (R34). -/
def idleMarkSlot (limit : Nat) (x : Slot) : Slot :=
  let y :=
    if x.state = .bound then
      if x.admissionMark = false ∧ x.depth = 0 ∧ x.outstanding = 0 then
        { x with idleRun := satAdd 255 x.idleRun 1, idleFlag := x.idleFlag || decide (limit ≤ satAdd 255 x.idleRun 1) }
      else { x with idleRun := 0 }
    else x
  { y with admissionMark := false }

/-- The Directory's part of a scan pass (R34). -/
def idleMarking (s : State) : State := s.mapSlots fun _ x => idleMarkSlot s.part.idleLimit x

/-- What an admission does to a slot's idle state (R33). -/
def markAdmission (x : Slot) : Slot := { x with admissionMark := true, idleFlag := false, idleRun := 0 }

/-- A slot as BIND leaves it, before its policy is copied (R23). -/
def boundSlot (a : FabAddr) (x : Slot) : Slot :=
  { x with
    state := .bound
    address := some a
    gen := x.gen + 1
    balance := 0
    outstanding := 0
    releasedEpoch := 0
    liftRemaining := 0
    queue := []
    admissionMark := false
    idleRun := 0
    idleFlag := false
    violations := 0
    counters := zeroSlotCounters
    spool := bindSpoolSlot x.spool }

end Sys2Proof.Machine
end

