-- ==== Sys2Proof/Machine/Sched.lean ====
section
/-! DEFINITION. The Share Scheduler's operations: cost, eligibility, arbitration, release, the boundary payout, promotion,
refunds, lifts, starvation (R58 to R82). -/

namespace Sys2Proof.Machine

/-! ### Cost (R66) -/

/-- The cost table entry of an operation. -/
def costEntry (t : CostTable) : Op → CostEntry
  | .read => t.read
  | .write => t.write
  | .flush => t.flush
  | .admin => t.admin

/-- The ceiling of n times multiplier over 8. -/
def eighths (n multiplier : Nat) : Nat := (n * multiplier + 7) / 8

/-- The cost of a command: eighths of its length plus overhead, 0 taken as 1 (R66). -/
def commandCost (t : CostTable) (op : Op) (length : Nat) : Nat :=
  max 1 (eighths length (costEntry t op).multiplier + (costEntry t op).overhead)

/-- The head's cost under the active table. -/
def headCost (s : State) (h : HeldRecord) : Nat := commandCost s.policy.active.cost h.ex.op h.ex.length

/-! ### Eligibility (R67, R68, R69) -/

/-- The pie gate: the cost fits the pie, or nothing is used yet (R68). -/
def pieGate (c : Scheduler) (cost : Nat) : Bool := decide (c.pieUsed + cost ≤ c.pie) || decide (c.pieUsed = 0)

/-- The balance test: promoted, or the balance less the cost stays within the debt limit, exactly (R69). -/
def balanceTest (p : SlotPolicy) (balance : Int) (promoted : Bool) (cost : Nat) : Bool :=
  promoted || decide (-(p.debtLimit : Int) ≤ balance - cost)

/-- The epoch ceiling holds (R67). -/
def ceilingTest (p : SlotPolicy) (releasedEpoch cost : Nat) : Bool :=
  match p.ceiling with
  | none => true
  | some c => decide (releasedEpoch + cost ≤ c)

/-- Record `h`, as head of slot `i`, is eligible (R67). -/
def headEligible (s : State) (i : SlotId) (h : HeldRecord) : Bool :=
  decide ((s.slot i).state = .bound) && !holdInForce s &&
    decide ((s.slot i).outstanding < (s.slotPolicy i).concurrency) &&
    ceilingTest (s.slotPolicy i) (s.slot i).releasedEpoch (headCost s h) && pieGate s.sched (headCost s h) &&
    balanceTest (s.slotPolicy i) (s.slot i).balance h.promoted (headCost s h)

/-- The head of slot `i`. -/
def headOf (s : State) (i : SlotId) : Option HeldRecord := (s.slot i).queue.head?

/-- Slot `i` has an eligible head. -/
def slotEligible (s : State) (i : SlotId) : Bool :=
  match headOf s i with
  | none => false
  | some h => headEligible s i h

/-- Slot `i` has a promoted head. -/
def headPromoted (s : State) (i : SlotId) : Bool :=
  match headOf s i with
  | none => false
  | some h => h.promoted

/-! ### Arbitration (R70) -/

/-- A class's ring pointer. -/
def ringPointer (c : Scheduler) : SlotClass → SlotId
  | .feed => c.ringFeed
  | .live => c.ringLive
  | .study => c.ringStudy
  | .bulk => c.ringBulk

/-- Sets a class's ring pointer. -/
def setRingPointer (k : SlotClass) (i : SlotId) (c : Scheduler) : Scheduler :=
  match k with
  | .feed => { c with ringFeed := i }
  | .live => { c with ringLive := i }
  | .study => { c with ringStudy := i }
  | .bulk => { c with ringBulk := i }

/-- The search order of a ring: from the slot after the pointer, wrapping from 127 to 0, to the pointer's own slot. -/
def ringOrder (pointer : SlotId) : List SlotId := allSlots.map fun k => pointer + 1 + k

/-- The classes in the order of choice. -/
def classOrder : List SlotClass := [.feed, .live, .study, .bulk]

/-- The first slot of a class, in ring order, that satisfies a test. -/
def firstInClass (s : State) (test : SlotId → Bool) (k : SlotClass) : Option SlotId :=
  (ringOrder (ringPointer s.sched k)).find? fun i => decide ((s.slotPolicy i).cls = k) && test i

/-- The chosen slot: the promotion pass, then the full pass (R70). -/
def chooseHead (s : State) : Option SlotId :=
  match classOrder.findSome? (firstInClass s fun i => slotEligible s i && headPromoted s i) with
  | some i => some i
  | none => classOrder.findSome? (firstInClass s (slotEligible s))

/-! ### Release (R72) -/

/-- The record a released head becomes (R50, R72). -/
def releasedRecord (s : State) (h : HeldRecord) : OpenRecord :=
  { ex := h.ex, state := .released, cost := headCost s h, releaseEpoch := s.pace.epoch, releaseStamp := s.pace.time
    ready := none }

/-- What a release does to its slot (R50, R72, R140). -/
def chargeSlot (cost length : Nat) (x : Slot) : Slot :=
  { x with
    queue := x.queue.tail
    balance := chargeBalance x.balance cost
    releasedEpoch := x.releasedEpoch + cost
    outstanding := x.outstanding + 1
    counters :=
      { x.counters with
        released := x.counters.released + 1
        sectorsReleased := x.counters.sectorsReleased + BitVec.ofNat 32 length }
    spool := addPeriodReleased length x.spool }

/-- Releases `h`, the head of slot `i`, as one event (R72). -/
def releaseHead (i : SlotId) (h : HeldRecord) (s : State) : State :=
  let s1 := s.modSlot i (chargeSlot (headCost s h) h.ex.length)
  { s1 with
    tracker := { s1.tracker with released := s1.tracker.released ++ [releasedRecord s h] }
    sched :=
      setRingPointer (s.slotPolicy i).cls i { s1.sched with pieUsed := s1.sched.pieUsed + headCost s h }
    releaseSlot := some h.frame }

/-- A release decision: with the release slot empty, the chosen head is released; otherwise nothing (R71). -/
def decideRelease (s : State) : State :=
  if s.releaseSlot.isSome then s
  else
    match chooseHead s with
    | none => s
    | some i =>
      match headOf s i with
      | none => s
      | some h => releaseHead i h s

/-! ### Outstanding, refunds, lifts -/

/-- An outstanding decrement, and the end of the drain it may bring (R76, R25). -/
def decrementOutstanding (i : SlotId) (s : State) : State :=
  completeDrain i (s.modSlot i fun x => { x with outstanding := x.outstanding - 1 })

/-- The refund of a close (R74). -/
def refundOf (t : CostTable) (r : OpenRecord) (code sectorsDone : Nat) : Nat :=
  let e := costEntry t r.ex.op
  if code ≠ 0 ∧ e.refundOnError = true then r.cost - e.overhead
  else if sectorsDone < r.ex.length then r.cost - (eighths sectorsDone e.multiplier + e.overhead)
  else 0

/-- Applies a refund to a slot, clamped to its cap (R75). -/
def applyRefund (i : SlotId) (refund : Nat) (s : State) : State :=
  s.modSlot i fun x => { x with balance := raiseBalance (s.slotPolicy i).cap x.balance refund }

/-- Counts a discarded refund (R75). -/
def discardRefund (s : State) : State :=
  { s with sched := { s.sched with refundsDiscarded := s.sched.refundsDiscarded + 1 } }

/-- A burst lift reported by the Pace Bank: taken where the slot is BOUND or SUSPENDED, with the decision the raise
triggers (R73, log entry 23). -/
def burstLift (b : BurstReport) (s : State) : State :=
  if (s.slot b.slot).state = .bound ∨ (s.slot b.slot).state = .suspended then
    decideRelease (s.modSlot b.slot fun x =>
      { x with
        liftRemaining := b.liftEpochs
        liftAmount := b.liftAmount
        balance := raiseBalance (s.slotPolicy b.slot).cap x.balance b.liftAmount })
  else s

/-! ### The boundary step (R58 to R65) -/

/-- The slot is in the payout set F (R60). -/
def inPayout (x : Slot) : Bool := decide (x.state = .bound) && !x.idleFlag

/-- The slot is in the contending set C (R60). -/
def inContending (x : Slot) : Bool := decide (x.state = .bound) && (decide (0 < x.depth) || decide (0 < x.outstanding))

/-- A slot's demand: its floor, and its lift amount while lift remaining is above 0 (R60). -/
def demandOf (p : SlotPolicy) (x : Slot) : Nat := p.floor + if 0 < x.liftRemaining then x.liftAmount else 0

/-- S, the sum of the demands over F (R60). -/
def demandSum (s : State) : Nat :=
  (allSlots.map fun i => if inPayout (s.slot i) then demandOf (s.slotPolicy i) (s.slot i) else 0).sum

/-- W, the sum of the weights over C (R60). -/
def weightSum (s : State) : Nat :=
  (allSlots.map fun i => if inContending (s.slot i) then (s.slotPolicy i).weight else 0).sum

/-- The quantum of a boundary whose demands fit the pie (R61). -/
def quantum (s : State) : Nat := if weightSum s = 0 then 0 else (s.sched.pie - demandSum s) / weightSum s

/-- A slot's payout (R61, R62). -/
def payout (s : State) (i : SlotId) : Nat :=
  let x := s.slot i
  if demandSum s ≤ s.sched.pie then
    (if inPayout x then demandOf (s.slotPolicy i) x else 0) +
      (if inContending x then (s.slotPolicy i).weight * quantum s else 0)
  else if inPayout x then demandOf (s.slotPolicy i) x * s.sched.pie / demandSum s
  else 0

/-- Pays every slot of F or C, clamped to its cap (R63). -/
def payBalances (s : State) : State :=
  s.mapSlots fun i x =>
    if inPayout x || inContending x then { x with balance := raiseBalance (s.slotPolicy i).cap x.balance (payout s i) }
    else x

/-- Lowers by one every lift remaining above 0 (R63). -/
def lowerLifts (s : State) : State := s.mapSlots fun _ x => { x with liftRemaining := x.liftRemaining - 1 }

/-- Reports demands above the pie: the OVERCOMMIT record and notice (R62). `total` is S. -/
def reportOvercommit (total : Nat) (s : State) : State :=
  if s.sched.pie < total then raiseNotice .overcommit (offerEvent .overcommit none (BitVec.ofNat 32 total) s) else s

/-- The refill: payouts, the overcommit report, lifts lowered (R60 to R63). -/
def refill (s : State) : State := lowerLifts (reportOvercommit (demandSum s) (payBalances s))

/-- A class's age limit (R64). -/
def ageLimit (t : ClassTable) : SlotClass → Option Nat
  | .feed => t.feed
  | .live => t.live
  | .study => t.study
  | .bulk => t.bulk

/-- The age of an epoch number, modulo 2^32 (spec/00, "Widths"). -/
def ageOf (now since : EpochNo) : Nat := (now - since).toNat

/-- Changes the head of a queue. -/
def modHead (g : HeldRecord → HeldRecord) : List HeldRecord → List HeldRecord
  | [] => []
  | h :: t => g h :: t

/-- Sets a head's promoted flag where its class's age limit is reached (R64). -/
def promoteHead (limit : Option Nat) (now : EpochNo) (h : HeldRecord) : HeldRecord :=
  match limit with
  | none => h
  | some n => if n ≤ ageOf now h.ex.admittedEpoch then { h with promoted := true } else h

/-- Promotion at a boundary: every slot's head, in every slot state (R64). -/
def promoteHeads (s : State) : State :=
  s.mapSlots fun i x =>
    { x with queue := modHead (promoteHead (ageLimit s.policy.active.classes (s.slotPolicy i).cls) s.pace.epoch) x.queue }

/-- The backlog indication: some BOUND slot has depth above 0 (R59). -/
def backlog (s : State) : Bool := allSlots.any fun i => decide ((s.slot i).state = .bound) && decide (0 < (s.slot i).depth)

/-- The per-epoch values of the opened epoch: its pie, pie used 0, every released this epoch 0 (R58, R59). -/
def openEpoch (pie : Nat) (s : State) : State :=
  { s.mapSlots (fun _ x => { x with releasedEpoch := 0 }) with sched := { s.sched with pie := pie, pieUsed := 0 } }

/-- The clamp of a commit's apply: every balance above its slot's new cap (R80). -/
def clampBalances (s : State) : State :=
  s.mapSlots fun i x => { x with balance := min x.balance ((s.slotPolicy i).cap : Int) }

/-! ### Starvation (R79) -/

/-- One slot's part of the starvation check. -/
def starveSlot (s : State) (i : SlotId) : State :=
  match headOf s i with
  | none => s
  | some h =>
    if (s.slot i).state = .bound ∧ h.starveNoted = false ∧ s.part.starveLimit ≤ ageOf s.pace.epoch h.ex.admittedEpoch then
      raiseNotice .starve
        (s.modSlot i fun x => { x with queue := modHead (fun r => { r with starveNoted := true }) x.queue })
    else s

/-- The Scheduler's part of a scan pass, in slot index order (R79). -/
def starveCheck (s : State) : State := allSlots.foldl starveSlot s

/-! ### Target hold (R77, R78) -/

/-- Pace ticks in a microsecond (spec/00, "Units"). -/
def ticksPerMicrosecond : Nat := 10

/-- The countdown as a HOLD of pause `n` leaves it (R77). -/
def holdCountdown (n : Nat) : Option Nat := if n = 0 then none else some (n * ticksPerMicrosecond)

/-- Sets the countdown. -/
def setHoldTicks (t : Option Nat) (s : State) : State := { s with sched := { s.sched with holdTicks := t } }

/-- A decision where a hold that was in force has ended (R78). -/
def decideIfHoldEnded (before after : State) : State :=
  if holdInForce before && !holdInForce after then decideRelease after else after

/-- A HOLD of pause `n` taken by the Scheduler (R77, R78). -/
def takeHold (n : Nat) (s : State) : State := decideIfHoldEnded s (setHoldTicks (holdCountdown n) s)

end Sys2Proof.Machine
end

