-- ==== Sys2Proof/Machine/Measure.lean ====
section
/-! DEFINITION. The Rate Monitor's operations: completion reports, the close of an epoch, matching and the tracker, the offer,
the calibration record, its part of a commit (R101 to R119). -/

namespace Sys2Proof.Machine

/-- Changes the Monitor by a function. -/
def State.modMonitor (s : State) (g : Monitor → Monitor) : State := { s with monitor := g s.monitor }

/-! ### Completion reports -/

/-- The accumulators after a report of sectors done and an optional latency (R101). -/
def accumulate (sectorsDone : Nat) (latency : Option Nat) (m : Monitor) : Monitor :=
  { m with
    completed := satAdd max32 m.completed sectorsDone
    answered := true
    count := match latency with | none => m.count | some _ => satAdd max32 m.count 1
    latencySum := match latency with | none => m.latencySum | some l => satAdd max32 m.latencySum l }

/-- SEEKING afresh: no candidate, runs 0, nothing selected (R107, R109, R111, R117). -/
def seekAfresh (m : Monitor) : Monitor :=
  { m with state := .seeking, candidate := none, run := 0, miss := 0, selected := none }

/-- The exit from SILENT at the first report (R109). -/
def silentExit (m : Monitor) : Monitor := if m.state = .silent then seekAfresh m else m

/-- A completion report taken (R101, R109). -/
def takeCompletion (sectorsDone : Nat) (latency : Option Nat) (s : State) : State :=
  s.modMonitor fun m => silentExit (accumulate sectorsDone latency m)

/-! ### The offer (R105) -/

/-- An active profile. -/
def activeProfile (s : State) (p : ProfileId) : Profile := s.policy.active.profiles[p]

/-- A staged profile. -/
def stagedProfile (s : State) (p : ProfileId) : Profile := s.policy.staged.profiles[p]

/-- The active tracker parameters. -/
def State.trackerParams (s : State) : TrackerParams := s.policy.active.tracker

/-- The budget of a named profile; the fallback where none is named, which LOCKED and FORCED never have (R105, log entry
29). -/
def namedBudget (s : State) : Option ProfileId → Nat
  | some p => (activeProfile s p).budget
  | none => s.trackerParams.fallbackBudget

/-- The budget the tracker state offers (spec/06, "The tracker"). -/
def offer (s : State) : Nat :=
  match s.monitor.state with
  | .seeking => s.trackerParams.fallbackBudget
  | .locked => namedBudget s s.monitor.selected
  | .forced => namedBudget s s.monitor.forced
  | .silent => s.trackerParams.probeBudget

/-- An epoch number lies within the calibration's epochs (R113). -/
def calHolds (c : Calibration) (e : EpochNo) : Bool := decide (ageOf e c.firstEpoch < c.requested)

/-- The epoch being opened is a calibration epoch (R105). -/
def isCalEpoch (c : Calibration) (e : EpochNo) : Bool := decide (c.status = .running) && calHolds c e

/-- The pie of the epoch numbered `e` that a boundary opens (R58). -/
def nextPie (s : State) (e : EpochNo) : Nat :=
  if isCalEpoch s.monitor.cal e then s.monitor.cal.budget else offer s

/-! ### The close (R102) -/

/-- What a close judges: the closing epoch's measurement and the Scheduler's three values. -/
structure Measurement where
  epoch : EpochNo
  completed : Nat
  count : Nat
  latencySum : Nat
  holdSpan : Nat
  pie : Nat
  pieUsed : Nat
  saturated : Bool
  length : Nat
  outstanding : Nat
  answered : Bool
  deriving DecidableEq, Repr

/-- Saturation: backlog, or pie used times 8 at or above saturation times P (R103). -/
def saturatedEpoch (saturation pie pieUsed : Nat) (backlog : Bool) : Bool :=
  backlog || decide (saturation * pie ≤ pieUsed * 8)

/-- The three values of the epoch in progress that the Scheduler hands the Monitor before it changes them (R59). -/
def closingReport (s : State) : ClosingReport := { pie := s.sched.pie, pieUsed := s.sched.pieUsed, backlog := backlog s }

/-- The measurement of the epoch numbered `closing`, from its closing report (R102, R103). The hold span is what the pair has
gathered. -/
def measure (closing : EpochNo) (r : ClosingReport) (s : State) : Measurement :=
  { epoch := closing, completed := s.monitor.completed, count := s.monitor.count, latencySum := s.monitor.latencySum
    holdSpan := s.pace.holdSpan, pie := r.pie, pieUsed := r.pieUsed
    saturated := saturatedEpoch s.trackerParams.saturation r.pie r.pieUsed r.backlog
    length := s.pace.closingLength, outstanding := totalOutstanding s, answered := s.monitor.answered }

/-- An epoch matches a profile (R104). -/
def matchesProfile (x : Measurement) (p : Profile) : Bool :=
  p.valid && decide (0 < x.count) && decide (p.rateLow ≤ x.completed) && decide (x.completed ≤ p.rateHigh) &&
    decide (x.latencySum / x.count ≤ p.latencyCeiling) && decide (2 * x.holdSpan ≤ x.length)

/-- The first match: the lowest-indexed entry the epoch matches (R104). -/
def firstMatch (s : State) (x : Measurement) : Option ProfileId :=
  (List.finRange 16).find? fun p => matchesProfile x (activeProfile s p)

/-- The run after a SEEKING epoch whose first match is `fm` (R106). -/
def seekRun (fm : Option ProfileId) (m : Monitor) : Monitor :=
  match fm with
  | none => { m with candidate := none, run := 0 }
  | some p => { m with candidate := some p, run := if m.candidate = some p then m.run + 1 else 1 }

/-- A profile's index as an event value. -/
def profileValue (p : Option ProfileId) : BitVec 32 :=
  match p with
  | none => 0#32
  | some i => BitVec.ofNat 32 i.val

/-- SEEKING at the close of a saturated epoch: the run, and the lock it may reach (R106). -/
def seekStep (x : Measurement) (s : State) : State :=
  let s1 := s.modMonitor (seekRun (firstMatch s x))
  if s.trackerParams.lockCount ≤ s1.monitor.run then
    raiseNotice .profileChange
      (offerEvent .profileLock none (profileValue s1.monitor.candidate)
        (s1.modMonitor fun m =>
          { m with state := .locked, selected := m.candidate, candidate := none, run := 0, miss := 0 }))
  else s1

/-- The epoch matches the selected profile alone (R107). -/
def matchesSelected (s : State) (x : Measurement) : Bool :=
  match s.monitor.selected with
  | none => false
  | some p => matchesProfile x (activeProfile s p)

/-- LOCKED at the close of a saturated epoch: the miss, and the unlock it may reach (R107). -/
def lockedStep (x : Measurement) (s : State) : State :=
  if matchesSelected s x then s.modMonitor fun m => { m with miss := 0 }
  else if s.trackerParams.unlockCount ≤ s.monitor.miss + 1 then
    raiseNotice .profileChange
      (offerEvent .profileUnlock none (profileValue s.monitor.selected) (s.modMonitor seekAfresh))
  else s.modMonitor fun m => { m with miss := m.miss + 1 }

/-- The run step: a neutral epoch moves nothing; FORCED and SILENT move no run or miss (R103, R109, R110). -/
def runStep (x : Measurement) (s : State) : State :=
  if x.saturated then
    match s.monitor.state with
    | .seeking => seekStep x s
    | .locked => lockedStep x s
    | .forced => s
    | .silent => s
  else s

/-- The silent run after a close (R108). -/
def nextSilentRun (x : Measurement) (n : Nat) : Nat :=
  if x.answered = false ∧ 0 < x.outstanding then satAdd 255 n 1 else 0

/-- The silent step, and the entry to SILENT from SEEKING or LOCKED (R108). -/
def silentStep (x : Measurement) (s : State) : State :=
  let s1 := s.modMonitor fun m => { m with silentRun := nextSilentRun x m.silentRun }
  if (s1.monitor.state = .seeking ∨ s1.monitor.state = .locked) ∧ s1.trackerParams.silentCount ≤ s1.monitor.silentRun then
    raiseNotice .targetSilent
      (offerEvent .targetSilent none (BitVec.ofNat 32 x.outstanding)
        (s1.modMonitor fun m => { seekAfresh m with state := .silent, silentRun := 0 }))
  else s1

/-- The calibration record after it takes an epoch (R114). -/
def addCalEpoch (x : Measurement) (c : Calibration) : Calibration :=
  { c with
    run := c.run + 1
    sumCompleted := satAdd max32 c.sumCompleted x.completed
    maxCompleted := max c.maxCompleted x.completed
    maxMeanLatency := if 0 < x.count then max c.maxMeanLatency (x.latencySum / x.count) else c.maxMeanLatency }

/-- The calibration step of a close: an epoch of a RUNNING or COMPLETE calibration is added (R114). -/
def calStep (x : Measurement) (c : Calibration) : Calibration :=
  if (c.status = .running ∨ c.status = .complete) ∧ calHolds c x.epoch = true then addCalEpoch x c else c

/-- The last-epoch record of a measurement (R102). -/
def lastEpochOf (x : Measurement) : LastEpoch :=
  { completed := x.completed, count := x.count, latencySum := x.latencySum, holdSpan := x.holdSpan, pieUsed := x.pieUsed
    pie := x.pie, saturated := x.saturated }

/-- The records at a close, and the accumulators cleared (R102). -/
def recordClose (x : Measurement) (m : Monitor) : Monitor :=
  { m with
    cal := calStep x m.cal
    last := lastEpochOf x
    completed := 0
    count := 0
    latencySum := 0
    answered := false }

/-- The profile then named: the selected when LOCKED, the forced when FORCED, otherwise the candidate (R102). -/
def namedProfile (m : Monitor) : Option ProfileId :=
  match m.state with
  | .locked => m.selected
  | .forced => m.forced
  | .seeking => m.candidate
  | .silent => m.candidate

/-- The closing summary (R102). -/
def summaryOf (x : Measurement) (m : Monitor) : ClosingSummary :=
  { epoch := x.epoch, pie := x.pie, pieUsed := x.pieUsed, completed := x.completed, holdSpan := x.holdSpan
    state := m.state, profile := namedProfile m }

/-- The close of an epoch, in the order of R102: the measurement with the hold span pair sampled, the run step, the silent
step, the records. The closing summary is then `summaryOf` of the measurement and the Monitor as the close left it. -/
def closeEpoch (x : Measurement) (s : State) : State :=
  (silentStep x (runStep x { s with pace := { s.pace with holdSpan := 0 } })).modMonitor (recordClose x)

/-! ### The apply of a commit (R117) -/

/-- The Monitor's part of an apply that changed the profile table or a tracker parameter. -/
def applyMonitor (m : Monitor) : Monitor :=
  match m.state with
  | .seeking => seekAfresh m
  | .locked => seekAfresh m
  | .forced => m
  | .silent => m

/-- The commit changes an entry of the profile table or a tracker parameter (R117, R155). -/
def monitorPolicyChanged (old new : Image) : Bool :=
  decide (old.profiles ≠ new.profiles) || decide (old.tracker ≠ new.tracker)

/-! ### Calibration (R113, R115, R116) -/

/-- The record of an accepted calibration (R113). -/
def newCalibration (n budget : Nat) (current : EpochNo) : Calibration :=
  { status := .running, requested := n, firstEpoch := current + 1, run := 0, budget := budget, maxCompleted := 0
    sumCompleted := 0, maxMeanLatency := 0 }

/-- CAL as an arming with `n` epochs leaves it: a STOPPING channel is STOPPED at once, without an expiry (R127). -/
def armCal (n : Nat) (c : CalChannel) : CalChannel :=
  { c with armed := some n, run := if c.run = .stopping then .stopped else c.run, due := false }

/-- CAL as a cancel leaves it: the arming withdrawn, a RUNNING channel told to stop (R116, R127). -/
def stopCal (c : CalChannel) : CalChannel :=
  { c with armed := none, run := if c.run = .running then .stopping else c.run }

/-- A cancel of the calibration: only where the record is RUNNING (R116). -/
def cancelCalibration (s : State) : State :=
  if s.monitor.cal.status = .running then
    { s with
      monitor := { s.monitor with cal := { s.monitor.cal with status := .cancelled } }
      pace := { s.pace with cal := stopCal s.pace.cal } }
  else s

end Sys2Proof.Machine
end

