-- ==== Sys2Proof/Machine/Exchange.lean ====
section
/-! DEFINITION. Exchange frames and their records: admission, turn-away, abort of a held command, withdrawal (R37 to R57), READY,
DATA, DONE and ABORT of released records (R83 to R93), burst meters' tally (R130). -/

namespace Sys2Proof.Machine

/-! ### Burst meters' tally -/

/-- A meter's active settings. -/
def meterSettings (s : State) : Meter → MeterSettings
  | .a => s.policy.active.pace.meterA
  | .b => s.policy.active.pace.meterB

/-- A meter as an admission into slot `i` leaves it: a RUNNING meter bound to the slot takes one count; at the count that
would bring it to 0 it is loaded again, STOPPED, and its expiry waits to be taken (R120, R121, R130). -/
def tallyMeter (c : MeterSettings) (i : SlotId) (m : MeterChannel) : MeterChannel :=
  if c.binding = some i ∧ m.run = .running then
    if m.count ≤ 1 then
      { count := c.threshold, run := .stopped
        due := m.due ++ [{ slot := i, liftAmount := c.liftAmount, liftEpochs := c.liftEpochs }] }
    else { m with count := m.count - 1 }
  else m

/-- Both meters' tally of an admission (R47, R130). -/
def tallyAdmission (i : SlotId) (s : State) : State :=
  { s with
    pace :=
      { s.pace with
        meterA := tallyMeter (meterSettings s .a) i s.pace.meterA
        meterB := tallyMeter (meterSettings s .b) i s.pace.meterB } }

/-! ### Admission (R41 to R47) -/

/-- A turned-away or refused COMMAND: the DONE placed and the TURNED AWAY condition raised, two separate placements in the
order given (R48). -/
def turnAway (order : TurnAwayOrder) (code : DoneCode) (cmd : Frame) (s : State) : State :=
  match order with
  | .doneFirst => raiseNotice .turnedAway (placeDone code cmd s)
  | .noticeFirst => placeDone code cmd (raiseNotice .turnedAway s)

/-- The same for a COMMAND looked up to slot `i`, whose turned-away counter rises whether the DONE is placed or lost (R43,
R48). -/
def turnAwayFrom (order : TurnAwayOrder) (i : SlotId) (code : DoneCode) (cmd : Frame) (s : State) : State :=
  turnAway order code cmd (s.countSlot i fun c => { c with turnedAway := c.turnedAway + 1 })

/-- The HELD record of an admission (R38, R39). A frame whose operation code is out of range never comes here (R6). -/
def heldRecord (s : State) (i : SlotId) (cmd : Frame) : HeldRecord :=
  { ex :=
      { key := keyOf .f cmd, slot := i, gen := (s.slot i).gen, op := (opOfCode (word0 cmd)).getD .admin
        length := word2 cmd, admittedEpoch := s.pace.epoch, moved := 0 }
    frame := cmd, promoted := false, starveNoted := false }

/-- What an admission does to its slot (R33, R47). -/
def admitToSlot (h : HeldRecord) (x : Slot) : Slot :=
  markAdmission
    { x with
      queue := x.queue ++ [h]
      counters := { x.counters with admitted := x.counters.admitted + 1 } }

/-- An admission: record and queue, counters, meters, then the release decision (R47). The decision comes before the lift of
a meter that this admission expires, which waits for METER_EXPIRY: the model's choice of an order the manual leaves open (log
entry 31). -/
def admitCommand (i : SlotId) (cmd : Frame) (s : State) : State :=
  decideRelease (tallyAdmission i (s.modSlot i (admitToSlot (heldRecord s i cmd))))

/-- Check 6: the pool refuses the slot's class (R46). -/
def poolRefuses (s : State) (i : SlotId) : Bool :=
  decide (freeCount s = 0) ||
    (decide ((s.slotPolicy i).cls ≠ .feed) && decide (freeCount s ≤ s.part.feedReserve))

/-- Checks 2 to 7 for a COMMAND looked up to slot `i`, in the order of the admission table (R41). -/
def admissionChecks (order : TurnAwayOrder) (i : SlotId) (cmd : Frame) (s : State) : State :=
  if (s.slot i).state = .quarantined then turnAwayFrom order i .quarantined cmd s
  else if (s.slot i).state = .draining then turnAwayFrom order i .withdrawn cmd s
  else if keyLive s (keyOf .f cmd) then reportViolation i s
  else if (s.slotPolicy i).holdLimit ≤ (s.slot i).depth then turnAwayFrom order i .turnedAwayQueue cmd s
  else if poolRefuses s i then turnAwayFrom order i .turnedAwayFull cmd s
  else admitCommand i cmd s

/-- A COMMAND for the target taken by the Store: check 1, then the rest (R41, R42). -/
def takeCommand (order : TurnAwayOrder) (cmd : Frame) (s : State) : State :=
  match slotFor s (srcAddr cmd) with
  | none => turnAway order .refusedUnlisted cmd s
  | some i => admissionChecks order i cmd s

/-! ### Abort and withdrawal of held commands -/

/-- The held record of a key in a queue. -/
def findHeld (k : ExchangeKey) (q : List HeldRecord) : Option HeldRecord := q.find? fun h => decide (h.ex.key = k)

/-- The key is that of the queue's head. -/
def isHead (k : ExchangeKey) (q : List HeldRecord) : Bool :=
  match q with
  | [] => false
  | h :: _ => decide (h.ex.key = k)

/-- What an abort does to the slot that holds the record (R51). -/
def abortFromSlot (k : ExchangeKey) (x : Slot) : Slot :=
  { x with
    queue := x.queue.eraseP fun h => decide (h.ex.key = k)
    counters := { x.counters with abortedHeld := x.counters.abortedHeld + 1 } }

/-- An ABORT of held record `h` of slot `i`: the record leaves, a DONE ABORTED is placed, and the removal of a head takes a
release decision (R51, R71). -/
def abortHeld (i : SlotId) (h : HeldRecord) (s : State) : State :=
  let s1 := placeDone .aborted h.frame (s.modSlot i (abortFromSlot h.ex.key))
  if isHead h.ex.key (s.slot i).queue then decideRelease s1 else s1

/-- One withdrawal's report: the DONE WITHDRAWN placed and the withdrawn counter raised (R52). -/
def withdrawOne (i : SlotId) (s : State) (h : HeldRecord) : State :=
  (placeDone .withdrawn h.frame s).countSlot i fun c => { c with withdrawn := c.withdrawn + 1 }

/-- Every HELD record of slot `i` withdrawn, from head to tail (R52). No removal from the origin queue falls between two
withdrawals: the model's choice (log entry 30). -/
def withdrawAll (s : State) (i : SlotId) : State :=
  (s.slot i).queue.foldl (withdrawOne i) (s.modSlot i fun x => { x with queue := [] })

/-! ### Released records (R84 to R93) -/

/-- Changes the released record of a key. -/
def modOpen (k : ExchangeKey) (g : OpenRecord → OpenRecord) (s : State) : State :=
  { s with
    tracker := { s.tracker with released := s.tracker.released.map fun r => if r.ex.key = k then g r else r } }

/-- Frees the released record of a key (R54). -/
def freeOpen (k : ExchangeKey) (s : State) : State :=
  { s with tracker := { s.tracker with released := s.tracker.released.eraseP fun r => decide (r.ex.key = k) } }

/-- A READY of an amount: recorded for a WRITE (R85). -/
def takeReady (amount : Nat) (r : OpenRecord) : OpenRecord :=
  if r.ex.op = .write then { r with ready := some amount } else r

/-- A DATA frame's sectors, saturating at 65535 (R86). -/
def takeData (sectors : Nat) (r : OpenRecord) : OpenRecord :=
  { r with ex := { r.ex with moved := satAdd 65535 r.ex.moved sectors } }

/-- Write DATA from the initiator that runs past the command's length (R87). -/
def overlength (p : Port) (f : Frame) (r : OpenRecord) : Bool :=
  decide (p = .f) && decide (r.ex.op = .write) && decide (r.ex.length < dataOffset f + dataSectors f)

/-- The Tracker's taking of a DATA frame matched to `r`: sectors moved, then the overlength report under the generation test
(R86, R87, R27). -/
def trackData (p : Port) (f : Frame) (r : OpenRecord) (s : State) : State :=
  let s1 := modOpen r.ex.key (takeData (dataSectors f)) s
  if overlength p f r && generationTest s r.ex then reportViolation r.ex.slot s1 else s1

/-- The latency of a close: absent for a STALE record (R91). -/
def closeLatency (now : PaceTime) (r : OpenRecord) : Option Nat :=
  if r.state = .stale then none else some (now - r.releaseStamp).toNat

/-- What a counted close does to its slot's counters and period (R88, R89, R140). -/
def countClose (late : Bool) (sectorsDone : Nat) (x : Slot) : Slot :=
  { x with
    counters :=
      { x.counters with
        sectorsCompleted := x.counters.sectorsCompleted + BitVec.ofNat 32 sectorsDone
        lateCompletions := if late then x.counters.lateCompletions + 1 else x.counters.lateCompletions }
    spool := addPeriodCompleted sectorsDone x.spool }

/-- The Scheduler's and the Directory's part of a close that passes the generation test: the refund, the counters, and for
a record that was not STALE the decrement (R75, R76, R88, R89, log entry 11). -/
def settleSlot (r : OpenRecord) (code sectorsDone : Nat) (s : State) : State :=
  let s1 := applyRefund r.ex.slot (refundOf s.policy.active.cost r code sectorsDone) s
  let s2 := s1.modSlot r.ex.slot (countClose (decide (r.state = .stale)) sectorsDone)
  if r.state = .stale then s2 else decrementOutstanding r.ex.slot s2

/-- A close triggers a decision: a decrement, or a refund above 0 (R71, R75, R76). -/
def closeTriggers (s : State) (r : OpenRecord) (code sectorsDone : Nat) : Bool :=
  generationTest s r.ex &&
    (decide (r.state ≠ .stale) || decide (0 < refundOf s.policy.active.cost r code sectorsDone))

/-- A DONE closes record `r`: settlement or a discarded refund, the completion report, the freeing, the decision (R88, R89,
R91). -/
def closeRecord (r : OpenRecord) (code sectorsDone : Nat) (s : State) : State :=
  let s1 := if generationTest s r.ex then settleSlot r code sectorsDone s else discardRefund s
  let s2 := freeOpen r.ex.key (takeCompletion sectorsDone (closeLatency s.pace.time r) s1)
  if closeTriggers s r code sectorsDone then decideRelease s2 else s2

/-- An ABORT of a released record: RELEASED becomes ABORTING (R92). -/
def takeAbort (r : OpenRecord) : OpenRecord := if r.state = .released then { r with state := .aborting } else r

/-- The DONE anomalies counter (R90). -/
def countAnomaly (s : State) : State :=
  { s with tracker := { s.tracker with doneAnomalies := s.tracker.doneAnomalies + 1 } }

end Sys2Proof.Machine
end

