-- ==== Sys2Proof/Machine/Agent.lean ====
section
/-! DEFINITION. The Management Agent's handling of its buffer (R162, R163, R169): the taking of the oldest request, the frame
checks, the response and its placement. -/

namespace Sys2Proof.Machine

/-- The status codes of a response (spec/01, "Management frame bodies"). -/
inductive Status where
  | ok
  | accepted
  | corrupt
  | unknownKind
  | badField
  | badSlot
  | badState
  | notVacant
  | duplicate
  | busy
  | denied
  deriving DecidableEq, Repr

/-- The wire code of a status. -/
def Status.code : Status → Byte
  | .ok => 0x00#8
  | .accepted => 0x01#8
  | .corrupt => 0x02#8
  | .unknownKind => 0x03#8
  | .badField => 0x04#8
  | .badSlot => 0x05#8
  | .badState => 0x06#8
  | .notVacant => 0x07#8
  | .duplicate => 0x08#8
  | .busy => 0x09#8
  | .denied => 0x0A#8

/-- What a request is answered with. -/
structure Reply where
  status : Status
  detail : Nat
  fields : List Byte
  completion : Completion
  deriving DecidableEq, Repr

/-- A reply of a status alone: detail 0, no response fields. -/
def replyStatus (x : Status) : Reply := { status := x, detail := 0, fields := [], completion := .plain }

/-- BAD FIELD with a detail. -/
def replyBadField (detail : Nat) : Reply := { status := .badField, detail := detail, fields := [], completion := .plain }

/-- OK with response fields. -/
def replyFields (fields : List Byte) : Reply := { status := .ok, detail := 0, fields := fields, completion := .plain }

/-- OK, the placement of the response completing something more. -/
def replyThen (c : Completion) : Reply := { status := .ok, detail := 0, fields := [], completion := c }

/-- A request refused with a status: no effect. -/
def refuse (x : Status) (s : State) : State × Reply := (s, replyStatus x)

/-- A request taken with OK and no response fields. -/
def taken (s : State) : State × Reply := (s, replyStatus .ok)

/-- What the placement of a response completes: the request leaves the buffer; a RENAME's address comes into force (R159); a
reset is due (R169). -/
def completeRequest (c : Completion) (s : State) : State :=
  let a := { s.agent with buffer := s.agent.buffer.tail, waiting := none }
  match c with
  | .plain => { s with agent := a }
  | .rename x => { s with agent := { a with address := x } }
  | .reset scope => { s with agent := { a with resetDue := some scope } }

/-- The response placed where the origin queue has space, kept waiting otherwise (R162). -/
def placeResponse (w : WaitingResponse) (s : State) : State :=
  if originHasSpace s then completeRequest w.completion (pushOrigin w.frame s)
  else { s with agent := { s.agent with waiting := some w } }

/-- The response frame of a reply, built with the management address and transport type in force (R18). -/
def responseFrame (req : Frame) (r : Reply) (s : State) : Frame :=
  buildMrsp s.transportType s.agent.address req r.status.code r.detail r.fields

/-- The response to a request built from its outcome and placed (R162). -/
def answer (req : Frame) (x : State × Reply) : State :=
  placeResponse { frame := responseFrame req x.2 x.1, completion := x.2.completion } x.1

/-- The request the Agent would take: the oldest, unless a response waits or a reset is being carried out (R162, R169). -/
def nextRequest (s : State) : Option Frame :=
  if s.agent.waiting.isSome ∨ s.agent.resetDue.isSome then none else s.agent.buffer.head?

/-- The Agent takes the oldest request where it is of the kind `accepts`; otherwise the command finds nothing to take (R162,
log entry 2). -/
def takeRequest (accepts : Frame → Bool) (serve : Frame → State → State × Reply) (s : State) : State :=
  if s.inReset then s
  else
    match nextRequest s with
    | none => s
    | some req => if accepts req then answer req (serve req s) else s

/-- A request of a kind whose request fields have a fixed size: the CRC, then the length, then the kind's own checks and
effects on the body (R163). -/
def serveSized (size : Nat) (handle : List Byte → State → State × Reply) (req : Frame) (s : State) : State × Reply :=
  if requestCorrupt req then refuse .corrupt s
  else if bodyLength req ≠ size + 2 then (s, replyBadField size)
  else handle (body req) s

/-- The oldest request is of the kind with this code. -/
def kindIs (code : Nat) (req : Frame) : Bool := decide (requestKind req = code)

/-- The taking of a request of a kind with fixed size. -/
def takeKind (code size : Nat) (handle : List Byte → State → State × Reply) (s : State) : State :=
  takeRequest (kindIs code) (serveSized size handle) s

/-! ### Meanings -/

/-- The waiting response is placed where a place is free (R15, R162). -/
def retryResponse (s : State) : State :=
  if s.inReset then s
  else
    match s.agent.waiting with
    | none => s
    | some w => if originHasSpace s then completeRequest w.completion (pushOrigin w.frame s) else s

/-- RESPONSE_PLACEMENT. -/
def execResponsePlacement (s : State) : Host.Outcome State Fault Refusal := .next (retryResponse s)

/-- A request whose kind code is not in the table (R163). -/
def serveUnknown (req : Frame) (s : State) : State × Reply :=
  if requestCorrupt req then refuse .corrupt s else refuse .unknownKind s

/-- The oldest request's kind code is not in the table. -/
def kindUnknown (req : Frame) : Bool := decide (requestKind req ∉ requestKindCodes)

/-- UNKNOWN_KIND. -/
def execUnknownKind (s : State) : Host.Outcome State Fault Refusal := .next (takeRequest kindUnknown serveUnknown s)

end Sys2Proof.Machine
end

