-- ==== Sys2Proof/Machine/Stage.lean ====
section
/-! DEFINITION. The Policy Stage (R149 to R154): the encoding of every group of the image (R151), the field tests and writes of
the STAGE requests (R150), COMMIT, DISCARD and READ STAGE DIGEST. -/

namespace Sys2Proof.Machine

/-! ### Codes -/

/-- The code of a class. -/
def SlotClass.code : SlotClass → Nat
  | .feed => 0
  | .live => 1
  | .study => 2
  | .bulk => 3

/-- The code of an unlisted policy. -/
def UnlistedPolicy.code : UnlistedPolicy → Nat
  | .adopt => 0
  | .refuse => 1

/-- The code of a prescale. -/
def Prescale.code : Prescale → Nat
  | .div1 => 0
  | .div16 => 1
  | .div256 => 2
  | .div4096 => 3

/-- The code of a spool mode. -/
def SpoolMode.code : SpoolMode → Nat
  | .off => 0
  | .stop => 1
  | .ring => 2
  | .ringThenStop => 3
  | .offThenRing => 4
  | .offThenStop => 5

/-- One byte of a number. -/
def byte (v : Nat) : List Byte := beBytes 1 v

/-- A field whose absence is sent as 0xFF. -/
def offByte : Option Nat → List Byte
  | none => byte 0xFF
  | some v => byte v

/-- A field whose absence is sent as 0. -/
def zeroByte : Option Nat → List Byte
  | none => byte 0
  | some v => byte v

/-- An index field whose absence is sent as 0xFF. -/
def slotByte : Option SlotId → List Byte
  | none => byte 0xFF
  | some i => byte i.val

/-! ### Encodings (R151: as the fields of the STAGE request body, the index or route left out) -/

/-- A slot policy: 15 bytes. -/
def slotPolicyBytes (p : SlotPolicy) : List Byte :=
  byte p.cls.code ++ byte p.weight ++ beBytes 2 p.floor ++ beBytes 2 p.cap ++ optBytes 2 p.ceiling ++
    beBytes 2 p.debtLimit ++ beBytes 2 p.holdLimit ++ byte p.concurrency ++ offByte p.batching

/-- The part values: 17 bytes. -/
def partBytes (p : PartValues) : List Byte :=
  beBytes 2 p.feedReserve ++ byte p.unlisted.code ++ optBytes 3 (p.target.map BitVec.toNat) ++
    beBytes 2 p.transportType.toNat ++ byte p.violationThreshold ++ beBytes 2 p.staleLimit ++ beBytes 2 p.orphanLimit ++
    beBytes 2 p.starveLimit ++ byte p.idleLimit

/-- One cost table entry: 3 bytes. -/
def costEntryBytes (c : CostEntry) : List Byte := byte c.multiplier ++ byte c.overhead ++ [flagByte c.refundOnError]

/-- The cost table: 12 bytes. -/
def costBytes (t : CostTable) : List Byte :=
  costEntryBytes t.read ++ costEntryBytes t.write ++ costEntryBytes t.flush ++ costEntryBytes t.admin

/-- The class table: 4 bytes. -/
def classBytes (t : ClassTable) : List Byte := zeroByte t.feed ++ zeroByte t.live ++ zeroByte t.study ++ zeroByte t.bulk

/-- A profile entry: 11 bytes. -/
def profileBytes (p : Profile) : List Byte :=
  [flagByte p.valid] ++ beBytes 2 p.rateLow ++ beBytes 2 p.rateHigh ++ beBytes 4 p.latencyCeiling ++ beBytes 2 p.budget

/-- The tracker parameters: 8 bytes. -/
def trackerBytes (t : TrackerParams) : List Byte :=
  byte t.saturation ++ byte t.lockCount ++ byte t.unlockCount ++ byte t.silentCount ++ beBytes 2 t.fallbackBudget ++
    beBytes 2 t.probeBudget

/-- A meter's settings: 6 bytes. -/
def meterBytes (m : MeterSettings) : List Byte :=
  slotByte m.binding ++ beBytes 2 m.threshold ++ beBytes 2 m.liftAmount ++ byte m.liftEpochs

/-- The pace settings: 18 bytes. -/
def paceBytes (p : PaceSettings) : List Byte :=
  byte p.epochPrescale.code ++ beBytes 2 p.epochReload ++ byte p.scanPrescale.code ++ byte p.scanReload ++
    [flagByte p.scanEnable] ++ meterBytes p.meterA ++ meterBytes p.meterB

/-- The spool settings: 14 bytes. -/
def spoolBytes (p : SpoolSettings) : List Byte :=
  byte p.mode.code ++ offByte p.summaryBatching ++ zeroByte p.markSpacing ++ zeroByte p.compression ++
    beBytes 2 p.triggerMask.toNat ++ beBytes 2 p.postReserve ++ beBytes 2 p.watermark ++ [flagByte p.stopOnWatermark] ++
    slotByte p.batchSlot ++ beBytes 2 p.batchThreshold

/-- A notice route: 6 bytes. -/
def routeBytes (r : NoticeRoute) : List Byte := optBytes 3 (r.address.map BitVec.toNat) ++ beBytes 2 r.mask.toNat

/-- The bytes of an image in the order of R151. -/
def imageBytes (m : Image) : List Byte :=
  m.slots.toList.flatMap slotPolicyBytes ++ partBytes m.part ++ costBytes m.cost ++ classBytes m.classes ++
    m.profiles.toList.flatMap profileBytes ++ trackerBytes m.tracker ++ paceBytes m.pace ++ spoolBytes m.spool ++
    routeBytes m.routeA ++ routeBytes m.routeB

/-- The digest of an image (R151). -/
def digest (m : Image) : BitVec 16 := crc16 (imageBytes m)

/-! ### Field tests (R150) -/

/-- The value of a body's field of `n` bytes lies in lo..hi. -/
def inRange (b : List Byte) (i n lo hi : Nat) : Bool := decide (lo ≤ beNat b i n ∧ beNat b i n ≤ hi)

/-- A test of one field: its offset, and whether it is in range. -/
def rangeTest (b : List Byte) (i n lo hi : Nat) : Nat × Bool := (i, inRange b i n lo hi)

/-- The tests of an optional field: its presence flag, then, where it is present, its value (R150, log entry 16). -/
def optTests (b : List Byte) (i n lo hi : Nat) : List (Nat × Bool) :=
  [rangeTest b i 1 0 1, (i + 1, decide (byteAt b i ≠ 1) || inRange b (i + 1) n lo hi)]

/-- A one-byte field that is in lo..hi or 0xFF. -/
def offTest (b : List Byte) (i lo hi : Nat) : Nat × Bool := (i, inRange b i 1 lo hi || decide (byteAt b i = 0xFF))

/-- A one-byte field that is one of the values listed. -/
def listTest (b : List Byte) (i : Nat) (values : List Nat) : Nat × Bool := (i, decide (byteAt b i ∈ values))

/-- The offset of the first field out of range. -/
def firstBad : List (Nat × Bool) → Option Nat
  | [] => none
  | (i, ok) :: rest => if ok then firstBad rest else some i

/-- Changes the staged image. -/
def State.modStaged (s : State) (g : Image → Image) : State :=
  { s with policy := { s.policy with staged := g s.policy.staged } }

/-- A STAGE request past its slot index test: BUSY while a commit is pending, BAD FIELD for the first field out of range,
otherwise the write (R150). -/
def stage (tests : List (Nat × Bool)) (write : Image → Image) (s : State) : State × Reply :=
  if s.policy.commitPending then refuse .busy s
  else
    match firstBad tests with
    | some i => (s, replyBadField i)
    | none => taken (s.modStaged write)

/-! ### The groups' field tests and contents, from the request bodies -/

/-- STAGE SLOT's field tests. -/
def slotTests (b : List Byte) : List (Nat × Bool) :=
  [rangeTest b 1 1 0 3, rangeTest b 2 1 1 255, rangeTest b 3 2 0 16383, rangeTest b 5 2 1 32767] ++ optTests b 7 2 1 65535 ++
    [rangeTest b 10 2 0 32767, rangeTest b 12 2 1 256, rangeTest b 14 1 1 64, offTest b 15 0 15]

/-- STAGE SLOT's policy. -/
def readSlotPolicy (b : List Byte) : SlotPolicy :=
  { cls := classOfCode (byteAt b 1), weight := byteAt b 2, floor := beNat b 3 2, cap := beNat b 5 2
    ceiling := optField (byteAt b 7) (beNat b 8 2), debtLimit := beNat b 10 2, holdLimit := beNat b 12 2
    concurrency := byteAt b 14, batching := offField (byteAt b 15) }

/-- STAGE PART's field tests. The transport type is 0x0600 or above and not 0x8100. -/
def partTests (b : List Byte) : List (Nat × Bool) :=
  [rangeTest b 0 2 0 256, rangeTest b 2 1 0 1] ++ optTests b 3 3 0 16777215 ++
    [(7, inRange b 7 2 0x0600 0xFFFF && decide (beNat b 7 2 ≠ 0x8100)), rangeTest b 9 1 1 255, rangeTest b 10 2 1 65535,
      rangeTest b 12 2 1 65535, rangeTest b 14 2 1 65535, rangeTest b 16 1 1 255]

/-- STAGE PART's values. -/
def readPart (b : List Byte) : PartValues :=
  { feedReserve := beNat b 0 2, unlisted := if byteAt b 2 = 0 then .adopt else .refuse
    target := (optField (byteAt b 3) (beNat b 4 3)).map (BitVec.ofNat 24), transportType := BitVec.ofNat 16 (beNat b 7 2)
    violationThreshold := byteAt b 9, staleLimit := beNat b 10 2, orphanLimit := beNat b 12 2, starveLimit := beNat b 14 2
    idleLimit := byteAt b 16 }

/-- One operation's field tests in STAGE COST. -/
def costTests (b : List Byte) (i : Nat) : List (Nat × Bool) :=
  [rangeTest b i 1 1 64, rangeTest b (i + 1) 1 0 255, rangeTest b (i + 2) 1 0 1]

/-- One operation's entry in STAGE COST. -/
def readCostEntry (b : List Byte) (i : Nat) : CostEntry :=
  { multiplier := byteAt b i, overhead := byteAt b (i + 1), refundOnError := decide (byteAt b (i + 2) = 1) }

/-- STAGE COST's table. -/
def readCost (b : List Byte) : CostTable :=
  { read := readCostEntry b 0, write := readCostEntry b 3, flush := readCostEntry b 6, admin := readCostEntry b 9 }

/-- STAGE CLASS's table; every byte is accepted. -/
def readClasses (b : List Byte) : ClassTable :=
  { feed := zeroField (byteAt b 0), live := zeroField (byteAt b 1), study := zeroField (byteAt b 2)
    bulk := zeroField (byteAt b 3) }

/-- STAGE PROFILE's field tests. -/
def profileTests (b : List Byte) : List (Nat × Bool) :=
  [rangeTest b 0 1 0 15, rangeTest b 1 1 0 1, rangeTest b 10 2 1 65535]

/-- STAGE PROFILE's entry. -/
def readProfile (b : List Byte) : Profile :=
  { valid := decide (byteAt b 1 = 1), rateLow := beNat b 2 2, rateHigh := beNat b 4 2, latencyCeiling := beNat b 6 4
    budget := beNat b 10 2 }

/-- STAGE TRACKER's field tests. -/
def trackerTests (b : List Byte) : List (Nat × Bool) :=
  [rangeTest b 0 1 1 8, rangeTest b 1 1 1 31, rangeTest b 2 1 1 7, rangeTest b 3 1 1 255, rangeTest b 4 2 1 65535,
    rangeTest b 6 2 1 65535]

/-- STAGE TRACKER's parameters. -/
def readTracker (b : List Byte) : TrackerParams :=
  { saturation := byteAt b 0, lockCount := byteAt b 1, unlockCount := byteAt b 2, silentCount := byteAt b 3
    fallbackBudget := beNat b 4 2, probeBudget := beNat b 6 2 }

/-- One meter's field tests in STAGE PACE. -/
def meterTests (b : List Byte) (i : Nat) : List (Nat × Bool) :=
  [offTest b i 0 127, rangeTest b (i + 1) 2 1 256, rangeTest b (i + 3) 2 0 16383, rangeTest b (i + 5) 1 1 255]

/-- One meter's settings in STAGE PACE. -/
def readMeter (b : List Byte) (i : Nat) : MeterSettings :=
  { binding := slotOfByte (byteAt b i), threshold := beNat b (i + 1) 2, liftAmount := beNat b (i + 3) 2
    liftEpochs := byteAt b (i + 5) }

/-- STAGE PACE's field tests; the reloads may hold any value. -/
def paceTests (b : List Byte) : List (Nat × Bool) :=
  [rangeTest b 0 1 0 3, rangeTest b 3 1 0 3, rangeTest b 5 1 0 1] ++ meterTests b 6 ++ meterTests b 12

/-- STAGE PACE's settings. -/
def readPace (b : List Byte) : PaceSettings :=
  { epochPrescale := prescaleOfCode (byteAt b 0), epochReload := beNat b 1 2, scanPrescale := prescaleOfCode (byteAt b 3)
    scanReload := byteAt b 4, scanEnable := decide (byteAt b 5 = 1), meterA := readMeter b 6, meterB := readMeter b 12 }

/-- Only bits 1..11 of a trigger mask may be set (R150). -/
def triggerMaskOk (m : BitVec 16) : Bool := decide (m &&& 0xF001#16 = 0#16)

/-- Only bits 0..11 of a notice mask may be set (R150). -/
def noticeMaskOk (m : BitVec 16) : Bool := decide (m &&& 0xF000#16 = 0#16)

/-- STAGE SPOOL's field tests. -/
def spoolTests (b : List Byte) : List (Nat × Bool) :=
  [rangeTest b 0 1 0 5, offTest b 1 0 15, listTest b 2 [0, 1, 8, 32], listTest b 3 [0, 8, 16, 32],
    (4, triggerMaskOk (BitVec.ofNat 16 (beNat b 4 2))), rangeTest b 6 2 0 2048, rangeTest b 8 2 1 2048, rangeTest b 10 1 0 1,
    offTest b 11 0 127, rangeTest b 12 2 1 2047]

/-- STAGE SPOOL's settings. -/
def readSpool (b : List Byte) : SpoolSettings :=
  { mode := spoolModeOfCode (byteAt b 0), summaryBatching := offField (byteAt b 1), markSpacing := zeroField (byteAt b 2)
    compression := zeroField (byteAt b 3), triggerMask := BitVec.ofNat 16 (beNat b 4 2), postReserve := beNat b 6 2
    watermark := beNat b 8 2, stopOnWatermark := decide (byteAt b 10 = 1), batchSlot := slotOfByte (byteAt b 11)
    batchThreshold := beNat b 12 2 }

/-- STAGE NOTICE's field tests. -/
def noticeTests (b : List Byte) : List (Nat × Bool) :=
  [rangeTest b 0 1 0 1] ++ optTests b 1 3 0 16777215 ++ [(5, noticeMaskOk (BitVec.ofNat 16 (beNat b 5 2)))]

/-- STAGE NOTICE's route. -/
def readRoute (b : List Byte) : NoticeRoute :=
  { address := (optField (byteAt b 1) (beNat b 2 3)).map (BitVec.ofNat 24), mask := BitVec.ofNat 16 (beNat b 5 2) }

/-! ### Handlers -/

/-- STAGE SLOT: the slot index first (R19), then as every STAGE request. -/
def stageSlot (b : List Byte) (s : State) : State × Reply :=
  match slotOfByte (byteAt b 0) with
  | none => refuse .badSlot s
  | some i => stage (slotTests b) (fun m => { m with slots := m.slots.set i.val (readSlotPolicy b) }) s

/-- STAGE PART. -/
def stagePart (b : List Byte) (s : State) : State × Reply := stage (partTests b) (fun m => { m with part := readPart b }) s

/-- STAGE COST. -/
def stageCost (b : List Byte) (s : State) : State × Reply :=
  stage (costTests b 0 ++ costTests b 3 ++ costTests b 6 ++ costTests b 9) (fun m => { m with cost := readCost b }) s

/-- STAGE CLASS. -/
def stageClass (b : List Byte) (s : State) : State × Reply := stage [] (fun m => { m with classes := readClasses b }) s

/-- STAGE PROFILE. The index is in range wherever the write is reached. -/
def stageProfile (b : List Byte) (s : State) : State × Reply :=
  stage (profileTests b)
    (fun m =>
      match profileOfByte (byteAt b 0) with
      | none => m
      | some p => { m with profiles := m.profiles.set p.val (readProfile b) }) s

/-- STAGE TRACKER. -/
def stageTracker (b : List Byte) (s : State) : State × Reply :=
  stage (trackerTests b) (fun m => { m with tracker := readTracker b }) s

/-- STAGE PACE. -/
def stagePace (b : List Byte) (s : State) : State × Reply := stage (paceTests b) (fun m => { m with pace := readPace b }) s

/-- STAGE SPOOL. -/
def stageSpool (b : List Byte) (s : State) : State × Reply := stage (spoolTests b) (fun m => { m with spool := readSpool b }) s

/-- STAGE NOTICE: route A for 0, route B for 1. -/
def stageNotice (b : List Byte) (s : State) : State × Reply :=
  stage (noticeTests b)
    (fun m => if byteAt b 0 = 0 then { m with routeA := readRoute b } else { m with routeB := readRoute b }) s

/-- The forced profile, where the tracker is FORCED, is not valid in the staged table: its index (R152). -/
def forcedInvalid (s : State) : Option ProfileId :=
  if s.monitor.state = .forced then
    match s.monitor.forced with
    | none => none
    | some p => if (stagedProfile s p).valid then none else some p
  else none

/-- The two bytes of a digest in a response. -/
def digestBytes (d : BitVec 16) : List Byte := beBytes 2 d.toNat

/-- COMMIT (R152). -/
def commit (_ : List Byte) (s : State) : State × Reply :=
  if s.policy.commitPending then refuse .busy s
  else
    match forcedInvalid s with
    | some p => (s, replyBadField (0x0A00 + p.val))
    | none =>
      ({ s with policy := { s.policy with commitPending := true, pendingDigest := digest s.policy.staged } },
        { status := .accepted, detail := 0, fields := digestBytes (digest s.policy.staged), completion := .plain })

/-- DISCARD (R154). -/
def discard (_ : List Byte) (s : State) : State × Reply :=
  if s.policy.commitPending then refuse .busy s else taken (s.modStaged fun _ => s.policy.active)

/-- READ STAGE DIGEST (R151). -/
def readStageDigest (_ : List Byte) (s : State) : State × Reply := (s, replyFields (digestBytes (digest s.policy.staged)))

/-! ### Meanings -/

/-- STAGE_SLOT. -/
def execStageSlot (s : State) : Host.Outcome State Fault Refusal := .next (takeKind 0x10 16 stageSlot s)

/-- STAGE_PART. -/
def execStagePart (s : State) : Host.Outcome State Fault Refusal := .next (takeKind 0x11 17 stagePart s)

/-- STAGE_COST. -/
def execStageCost (s : State) : Host.Outcome State Fault Refusal := .next (takeKind 0x12 12 stageCost s)

/-- STAGE_CLASS. -/
def execStageClass (s : State) : Host.Outcome State Fault Refusal := .next (takeKind 0x13 4 stageClass s)

/-- STAGE_PROFILE. -/
def execStageProfile (s : State) : Host.Outcome State Fault Refusal := .next (takeKind 0x14 12 stageProfile s)

/-- STAGE_TRACKER. -/
def execStageTracker (s : State) : Host.Outcome State Fault Refusal := .next (takeKind 0x15 8 stageTracker s)

/-- STAGE_PACE. -/
def execStagePace (s : State) : Host.Outcome State Fault Refusal := .next (takeKind 0x16 18 stagePace s)

/-- STAGE_SPOOL. -/
def execStageSpool (s : State) : Host.Outcome State Fault Refusal := .next (takeKind 0x17 14 stageSpool s)

/-- STAGE_NOTICE. -/
def execStageNotice (s : State) : Host.Outcome State Fault Refusal := .next (takeKind 0x18 7 stageNotice s)

/-- COMMIT. -/
def execCommit (s : State) : Host.Outcome State Fault Refusal := .next (takeKind 0x20 0 commit s)

/-- DISCARD. -/
def execDiscard (s : State) : Host.Outcome State Fault Refusal := .next (takeKind 0x21 0 discard s)

/-- READ_STAGE_DIGEST. -/
def execReadStageDigest (s : State) : Host.Outcome State Fault Refusal := .next (takeKind 0x22 0 readStageDigest s)

end Sys2Proof.Machine
end

