-- ==== Sys2Proof/Machine/SlotRequests.lean ====
section
/-! DEFINITION. The requests that the Initiator Directory carries out: BIND, UNBIND, SUSPEND, RESUME, CLEAR QUARANTINE (R19, R23
to R28). -/

namespace Sys2Proof.Machine

/-- A request that names a slot by its first body byte: BAD SLOT above 127 (R19). -/
def withSlot (b : List Byte) (handle : SlotId → State → State × Reply) (s : State) : State × Reply :=
  match slotOfByte (byteAt b 0) with
  | none => refuse .badSlot s
  | some i => handle i s

/-- The same for BIND and UNBIND, which refuse slot 0 too (R19). -/
def withBindable (b : List Byte) (handle : SlotId → State → State × Reply) (s : State) : State × Reply :=
  withSlot b (fun i s => if i = 0 then refuse .badSlot s else handle i s) s

/-- The address a BIND carries. -/
def bindAddress (b : List Byte) : FabAddr := BitVec.ofNat 24 (beNat b 1 3)

/-- The staged policy of slot `i` becomes its active policy (R23). -/
def copyStagedPolicy (i : SlotId) (s : State) : State :=
  { s with
    policy :=
      { s.policy with
        active := { s.policy.active with slots := s.policy.active.slots.set i.val (s.policy.staged.slots[i]) } } }

/-- A bind taken (R23). -/
def bindSlot (i : SlotId) (a : FabAddr) (s : State) : State := copyStagedPolicy i (s.modSlot i (boundSlot a))

/-- BIND's tests past the slot index, in their order (R23). -/
def bindChecked (a : FabAddr) (i : SlotId) (s : State) : State × Reply :=
  if (s.slot i).state ≠ .vacant then refuse .notVacant s
  else if (mapLookup s a).isSome then refuse .duplicate s
  else taken (bindSlot i a s)

/-- BIND. -/
def bindRequest (b : List Byte) (s : State) : State × Reply := withBindable b (bindChecked (bindAddress b)) s

/-- A slot as UNBIND leaves it once its held commands are withdrawn (R24). -/
def drainingSlot (x : Slot) : Slot := { x with state := .draining, balance := 0, liftRemaining := 0 }

/-- An unbind taken: DRAINING, the held commands withdrawn, balance and lift remaining 0, the drain's end where nothing is
outstanding (R24). -/
def unbindSlot (i : SlotId) (s : State) : State :=
  completeDrain i ((withdrawAll (s.modSlot i fun x => { x with state := .draining }) i).modSlot i drainingSlot)

/-- UNBIND's test of the state (R24). -/
def unbindChecked (i : SlotId) (s : State) : State × Reply :=
  if (s.slot i).state = .vacant ∨ (s.slot i).state = .draining then refuse .badState s else taken (unbindSlot i s)

/-- UNBIND. -/
def unbindRequest (b : List Byte) (s : State) : State × Reply := withBindable b unbindChecked s

/-- SUSPEND's test and effect (R26). -/
def suspendChecked (i : SlotId) (s : State) : State × Reply :=
  if (s.slot i).state = .bound then taken (s.modSlot i fun x => { x with state := .suspended }) else refuse .badState s

/-- SUSPEND. -/
def suspendRequest (b : List Byte) (s : State) : State × Reply := withSlot b suspendChecked s

/-- RESUME's test and effect, with the decision it triggers (R26, R71). -/
def resumeChecked (i : SlotId) (s : State) : State × Reply :=
  if (s.slot i).state = .suspended then taken (decideRelease (s.modSlot i fun x => { x with state := .bound }))
  else refuse .badState s

/-- RESUME. -/
def resumeRequest (b : List Byte) (s : State) : State × Reply := withSlot b resumeChecked s

/-- CLEAR QUARANTINE's test and effect, with the decision it triggers (R28, R71). -/
def clearQuarantineChecked (i : SlotId) (s : State) : State × Reply :=
  if (s.slot i).state = .quarantined then
    taken (decideRelease (s.modSlot i fun x => { x with state := .bound, violations := 0 }))
  else refuse .badState s

/-- CLEAR QUARANTINE. -/
def clearQuarantineRequest (b : List Byte) (s : State) : State × Reply := withSlot b clearQuarantineChecked s

/-! ### Meanings -/

/-- BIND. -/
def execBind (s : State) : Host.Outcome State Fault Refusal := .next (takeKind 0x30 4 bindRequest s)

/-- UNBIND. -/
def execUnbind (s : State) : Host.Outcome State Fault Refusal := .next (takeKind 0x31 1 unbindRequest s)

/-- SUSPEND. -/
def execSuspend (s : State) : Host.Outcome State Fault Refusal := .next (takeKind 0x32 1 suspendRequest s)

/-- RESUME. -/
def execResume (s : State) : Host.Outcome State Fault Refusal := .next (takeKind 0x33 1 resumeRequest s)

/-- CLEAR_QUARANTINE. -/
def execClearQuarantine (s : State) : Host.Outcome State Fault Refusal := .next (takeKind 0x34 1 clearQuarantineRequest s)

end Sys2Proof.Machine
end

