-- ==== Sys2Proof/Machine/ReadRequests.lean ====
section
/-! DEFINITION. The snapshot reads QUERY PART, READ SLOT, READ COUNTERS and READ MONITOR (R164; layouts of spec/01, "Request
kinds" and "Part counters"). -/

namespace Sys2Proof.Machine

/-- QUERY PART's fields: product code 0x0048, revision 1, management address, station address, epoch number, pending-commit
flag. -/
def queryFields (s : State) : List Byte :=
  beBytes 2 0x0048 ++ byte 1 ++ beBytes 3 s.agent.address.toNat ++ beBytes 6 Config.stationAddress.toNat ++
    beBytes 4 s.pace.epoch.toNat ++ [flagByte s.policy.commitPending]

/-- QUERY PART. -/
def queryPart (_ : List Byte) (s : State) : State × Reply := (s, replyFields (queryFields s))

/-- The code of a slot state. -/
def SlotState.code : SlotState → Nat
  | .vacant => 0
  | .bound => 1
  | .suspended => 2
  | .quarantined => 3
  | .draining => 4

/-- A 32-bit counter's four bytes. -/
def counterBytes (c : Counter) : List Byte := beBytes 4 c.toNat

/-- A slot's address in READ SLOT: 000000 where it holds none (R19). -/
def addressBytes : Option FabAddr → List Byte
  | none => beBytes 3 0
  | some a => beBytes 3 a.toNat

/-- The eight counters in READ SLOT's order (R32). -/
def slotCounterBytes (c : SlotCounters) : List Byte :=
  counterBytes c.admitted ++ counterBytes c.released ++ counterBytes c.withdrawn ++ counterBytes c.abortedHeld ++
    counterBytes c.turnedAway ++ counterBytes c.sectorsReleased ++ counterBytes c.sectorsCompleted ++
    counterBytes c.lateCompletions

/-- A slot's state and dynamic fields in READ SLOT's order. -/
def slotDynamicBytes (x : Slot) : List Byte :=
  byte x.state.code ++ addressBytes x.address ++ byte x.gen.toNat ++ beBytes 2 (twosComplement 16 x.balance) ++
    byte x.outstanding ++ beBytes 4 x.releasedEpoch ++ [flagByte x.idleFlag] ++ byte x.idleRun ++ byte x.liftRemaining ++
    beBytes 2 x.depth ++ byte x.violations

/-- READ SLOT's fields: staged policy, active policy, state, dynamic fields, counters. -/
def readSlotFields (i : SlotId) (s : State) : List Byte :=
  slotPolicyBytes (s.policy.staged.slots[i]) ++ slotPolicyBytes (s.slotPolicy i) ++ slotDynamicBytes (s.slot i) ++
    slotCounterBytes (s.slot i).counters

/-- READ SLOT. -/
def readSlotRequest (b : List Byte) (s : State) : State × Reply :=
  withSlot b (fun i s => (s, replyFields (readSlotFields i s))) s

/-- The 30 part counters in index order (spec/01, "Part counters"). -/
def partCounters (s : State) : List Counter :=
  [s.portF.received, s.portF.transmitted, s.portF.egressDiscards, s.originDiscards, s.portF.forwardOverflow,
    s.portF.receiveErrors, s.portT.received, s.portT.transmitted, s.portT.egressDiscards, s.portT.forwardOverflow,
    s.portT.receiveErrors, s.holdConsumed, s.sorter.malformed, s.sorter.unscheduled, s.sorter.unmatched, s.sorter.misported,
    s.lostDone.turnedAwayFull, s.lostDone.turnedAwayQueue, s.lostDone.withdrawn, s.lostDone.quarantined, s.lostDone.aborted,
    s.lostDone.refusedUnlisted, s.sched.refundsDiscarded, s.tracker.doneAnomalies, s.tracker.orphaned,
    s.agent.droppedByList, s.agent.droppedByFull, s.agent.noticesLost, s.spool.dropped, s.spool.ignored]

/-- READ COUNTERS. -/
def readCounters (_ : List Byte) (s : State) : State × Reply := (s, replyFields ((partCounters s).flatMap counterBytes))

/-- The code of a calibration status. -/
def CalStatus.code : CalStatus → Nat
  | .none => 0
  | .running => 1
  | .complete => 2
  | .cancelled => 3

/-- The tracker's part of READ MONITOR. -/
def trackerStateBytes (m : Monitor) : List Byte :=
  byte m.state.code ++ [indexByte m.candidate] ++ byte m.run ++ byte m.miss ++ [indexByte m.selected] ++
    [indexByte m.forced]

/-- The last-epoch record's part of READ MONITOR. -/
def lastEpochBytes (x : LastEpoch) : List Byte :=
  beBytes 4 x.completed ++ beBytes 4 x.count ++ beBytes 4 x.latencySum ++ beBytes 2 x.holdSpan ++ beBytes 4 x.pieUsed ++
    beBytes 2 x.pie ++ [flagByte x.saturated]

/-- The calibration record's part of READ MONITOR. -/
def calibrationBytes (c : Calibration) : List Byte :=
  byte c.status.code ++ byte c.requested ++ byte c.run ++ beBytes 2 c.budget ++ beBytes 4 c.maxCompleted ++
    beBytes 4 c.sumCompleted ++ beBytes 4 c.maxMeanLatency

/-- READ MONITOR's fields. -/
def readMonitorFields (m : Monitor) : List Byte := trackerStateBytes m ++ lastEpochBytes m.last ++ calibrationBytes m.cal

/-- READ MONITOR. -/
def readMonitor (_ : List Byte) (s : State) : State × Reply := (s, replyFields (readMonitorFields s.monitor))

/-! ### Meanings -/

/-- QUERY_PART. -/
def execQueryPart (s : State) : Host.Outcome State Fault Refusal := .next (takeKind 0x01 0 queryPart s)

/-- READ_SLOT. -/
def execReadSlot (s : State) : Host.Outcome State Fault Refusal := .next (takeKind 0x40 1 readSlotRequest s)

/-- READ_COUNTERS. -/
def execReadCounters (s : State) : Host.Outcome State Fault Refusal := .next (takeKind 0x41 0 readCounters s)

/-- READ_MONITOR. -/
def execReadMonitor (s : State) : Host.Outcome State Fault Refusal := .next (takeKind 0x42 0 readMonitor s)

end Sys2Proof.Machine
end

