-- ==== Sys2Proof/Machine/ControlRequests.lean ====
section
/-! DEFINITION. The requests of the Rate Monitor, the Usage Spool and the Agent itself, and RESET PART (R110, R111, R113, R116,
R137, R144, R145, R159, R160, R167, R169). -/

namespace Sys2Proof.Machine

/-! ### Rate Monitor -/

/-- The entry may be forced: valid in the active table, and in the staged table while a commit is pending (R110). -/
def forceable (s : State) (p : ProfileId) : Bool :=
  (activeProfile s p).valid && (!s.policy.commitPending || (stagedProfile s p).valid)

/-- The Monitor forced to a profile (R110). -/
def forcedMonitor (p : ProfileId) (m : Monitor) : Monitor := { seekAfresh m with state := .forced, forced := some p }

/-- FORCE PROFILE. The detail of its BAD FIELD is the profile's offset, 0 (log entry 16). -/
def forceProfile (b : List Byte) (s : State) : State × Reply :=
  match profileOfByte (byteAt b 0) with
  | none => (s, replyBadField 0)
  | some p => if forceable s p then taken (s.modMonitor (forcedMonitor p)) else (s, replyBadField 0)

/-- The Monitor released from a forced profile (R111). -/
def releasedMonitor (m : Monitor) : Monitor := { seekAfresh m with forced := none }

/-- RELEASE FORCE. -/
def releaseForce (_ : List Byte) (s : State) : State × Reply :=
  if s.monitor.state = .forced then taken (s.modMonitor releasedMonitor) else refuse .badState s

/-- An acceptance of a calibration: the record, and CAL armed (R113). -/
def acceptCalibration (n budget : Nat) (s : State) : State :=
  { s with
    monitor := { s.monitor with cal := newCalibration n budget s.pace.epoch }
    pace := { s.pace with cal := armCal n s.pace.cal } }

/-- CALIBRATE with a count above 0. The detail of its BAD FIELD is the budget's offset, 1 (log entry 16). -/
def calibrate (b : List Byte) (s : State) : State × Reply :=
  if s.monitor.cal.status = .running then refuse .busy s
  else if beNat b 1 2 = 0 then (s, replyBadField 1)
  else taken (acceptCalibration (byteAt b 0) (beNat b 1 2) s)

/-- CALIBRATE with a count of 0 (R116). -/
def calibrateCancel (_ : List Byte) (s : State) : State × Reply := taken (cancelCalibration s)

/-- A CALIBRATE request that passes the frame checks and carries a count of 0; every other CALIBRATE request is the other
row's (log entry 15). -/
def cancels (req : Frame) : Bool :=
  kindIs 0x52 req && !requestCorrupt req && decide (bodyLength req = 5) && decide (byteAt (body req) 0 = 0)

/-! ### Usage Spool -/

/-- The entries a SPOOL READ removes: the lesser of the maximum and the occupancy (R144). -/
def readCount (maximum : Nat) (s : State) : Nat := min maximum s.spool.entries.length

/-- SPOOL READ's response fields: the count, a byte sent as 0, the entries oldest first. -/
def spoolReadFields (n : Nat) (s : State) : List Byte :=
  byte n ++ byte 0 ++ (s.spool.entries.take n).flatMap SpoolEntry.bytes

/-- SPOOL READ. The detail of its BAD FIELD is the maximum's offset, 0 (log entry 16). -/
def spoolRead (b : List Byte) (s : State) : State × Reply :=
  if inRange b 0 1 1 60 then
    (s.modSpool fun x => { x with entries := x.entries.drop (readCount (byteAt b 0) s) },
      replyFields (spoolReadFields (readCount (byteAt b 0) s) s))
  else (s, replyBadField 0)

/-- SPOOL TRIGGER: OK in PRE, BAD STATE otherwise with an ignored trigger counted (R137). -/
def spoolTrigger (_ : List Byte) (s : State) : State × Reply :=
  (offerTrigger none 0 s, replyStatus (if s.spool.state = .pre then .ok else .badState))

/-- The spool as SPOOL CLEAR leaves it (R145). -/
def clearSpool (s : State) : State :=
  setFullNext (s.modSpool fun x => { x with entries := [], state := firstState s.spoolSettings.mode, batchCount := 0 })

/-- SPOOL CLEAR. -/
def spoolClear (_ : List Byte) (s : State) : State × Reply := taken (clearSpool s)

/-! ### Agent -/

/-- CLEAR NOTICES: BAD FIELD for a bit above 11, otherwise the named flags clear (R167). -/
def clearNotices (b : List Byte) (s : State) : State × Reply :=
  let m := BitVec.ofNat 16 (beNat b 0 2)
  if noticeMaskOk m then
    taken { s with agent := { s.agent with flags := s.agent.flags &&& ~~~(m.setWidth 12) } }
  else (s, replyBadField 0)

/-- The addresses a SET MANAGERS carries. -/
def managerAddresses (b : List Byte) : List FabAddr :=
  (List.range (byteAt b 0)).map fun k => BitVec.ofNat 24 (beNat b (1 + 3 * k) 3)

/-- SET MANAGERS: the CRC; no count, BAD FIELD 0; a count above 4, BAD FIELD 0; the length for the count; then the list
replaced (R160, R163). -/
def setManagers (req : Frame) (s : State) : State × Reply :=
  let b := body req
  if requestCorrupt req then refuse .corrupt s
  else if bodyLength req < 3 then (s, replyBadField 0)
  else if 4 < byteAt b 0 then (s, replyBadField 0)
  else if bodyLength req ≠ 1 + 3 * byteAt b 0 + 2 then (s, replyBadField (1 + 3 * byteAt b 0))
  else taken { s with agent := { s.agent with managers := managerAddresses b } }

/-- RENAME: DENIED where the address map holds the address; otherwise OK, the address changing at the placement (R159). The
address already in force is DENIED too where a slot is bound to it: the model's choice between two sentences of R159 (log
entry 34). -/
def rename (b : List Byte) (s : State) : State × Reply :=
  let a := BitVec.ofNat 24 (beNat b 0 3)
  if (mapLookup s a).isSome then refuse .denied s else (s, replyThen (.rename a))

/-- The scope of a RESET PART request (R169). -/
def scopeOf (b : List Byte) : Option ResetScope :=
  match byteAt b 0 with
  | 1 => some .full
  | 2 => some .traffic
  | _ => none

/-- RESET PART: BAD FIELD 0 for an invalid scope, otherwise OK, the reset due at the placement (R169). -/
def resetPart (b : List Byte) (s : State) : State × Reply :=
  match scopeOf b with
  | none => (s, replyBadField 0)
  | some scope => (s, replyThen (.reset scope))

/-- A RESET PART request that passes the frame checks and carries scope TRAFFIC; every other RESET PART request is the other
row's (log entry 15). -/
def resetsTraffic (req : Frame) : Bool :=
  kindIs 0x7F req && !requestCorrupt req && decide (bodyLength req = 3) && decide (byteAt (body req) 0 = 2)

/-! ### Meanings -/

/-- FORCE_PROFILE. -/
def execForceProfile (s : State) : Host.Outcome State Fault Refusal := .next (takeKind 0x50 1 forceProfile s)

/-- RELEASE_FORCE. -/
def execReleaseForce (s : State) : Host.Outcome State Fault Refusal := .next (takeKind 0x51 0 releaseForce s)

/-- CALIBRATE. -/
def execCalibrate (s : State) : Host.Outcome State Fault Refusal :=
  .next (takeRequest (fun req => kindIs 0x52 req && !cancels req) (serveSized 3 calibrate) s)

/-- CALIBRATE_CANCEL. -/
def execCalibrateCancel (s : State) : Host.Outcome State Fault Refusal :=
  .next (takeRequest cancels (serveSized 3 calibrateCancel) s)

/-- SPOOL_READ. -/
def execSpoolRead (s : State) : Host.Outcome State Fault Refusal := .next (takeKind 0x60 1 spoolRead s)

/-- SPOOL_TRIGGER. -/
def execSpoolTrigger (s : State) : Host.Outcome State Fault Refusal := .next (takeKind 0x61 0 spoolTrigger s)

/-- SPOOL_CLEAR. -/
def execSpoolClear (s : State) : Host.Outcome State Fault Refusal := .next (takeKind 0x62 0 spoolClear s)

/-- CLEAR_NOTICES. -/
def execClearNotices (s : State) : Host.Outcome State Fault Refusal := .next (takeKind 0x70 2 clearNotices s)

/-- SET_MANAGERS. -/
def execSetManagers (s : State) : Host.Outcome State Fault Refusal := .next (takeRequest (kindIs 0x71) setManagers s)

/-- RENAME. -/
def execRename (s : State) : Host.Outcome State Fault Refusal := .next (takeKind 0x72 3 rename s)

/-- RESET_PART_FULL. -/
def execResetPartFull (s : State) : Host.Outcome State Fault Refusal :=
  .next (takeRequest (fun req => kindIs 0x7F req && !resetsTraffic req) (serveSized 1 resetPart) s)

/-- RESET_PART_TRAFFIC. -/
def execResetPartTraffic (s : State) : Host.Outcome State Fault Refusal :=
  .next (takeRequest resetsTraffic (serveSized 1 resetPart) s)

end Sys2Proof.Machine
end

