-- ==== Sys2Proof/Machine/Frames.lean ====
section
/-! DEFINITION. The Frame Sorter (R3 to R11), what each sort of frame brings about, and the meanings of the frame commands. -/

namespace Sys2Proof.Machine

/-- Where the Frame Sorter sends a frame: the rows of the table of spec/01, "The Frame Sorter". -/
inductive Disposition where
  /-- To the opposite port, no Sorter counter moved. -/
  | pass
  /-- To the opposite port, counted malformed (R6). -/
  | malformed
  /-- To the opposite port, counted unscheduled (R7). -/
  | unscheduled
  /-- To the opposite port, counted unmatched (R4, R8). -/
  | unmatched
  /-- To the opposite port, counted misported (R10). -/
  | misported
  /-- A COMMAND for the target, to the Exchange Store (R7). -/
  | admission
  /-- In direction, its key that of a HELD record of the slot (R8). -/
  | held (i : SlotId) (h : HeldRecord)
  /-- In direction, its key that of a released record (R8). -/
  | released (r : OpenRecord)
  /-- A HOLD on Port T, consumed (R9). -/
  | hold
  /-- An MREQ for the part, to the Management Agent (R10). -/
  | request
  deriving DecidableEq, Repr

/-- The record found by a lookup of a key among the live records (R8). -/
def lookupRecord (s : State) (k : ExchangeKey) : Disposition :=
  match heldSlot s k with
  | some i =>
    match findHeld k (s.slot i).queue with
    | some h => .held i h
    | none => .unmatched
  | none =>
    match openRecord s k with
    | some r => .released r
    | none => .unmatched

/-- A COMMAND is for the target: no active target address, or the COMMAND's destination equals it (R7). -/
def forTarget (s : State) (f : Frame) : Bool :=
  match s.part.target with
  | none => true
  | some a => decide (a = dstAddr f)

/-- The sort of a transport frame that passes the header check, by its kind and arrival port (R4, R7 to R10). -/
def classifyTransport (p : Port) (f : Frame) (s : State) : Disposition :=
  match kindCode f, p with
  | 0x01, .f => if forTarget s f then .admission else .unscheduled
  | 0x01, .t => .unscheduled
  | 0x02, .f => .unmatched
  | 0x02, .t => lookupRecord s (keyOf .t f)
  | 0x03, p => lookupRecord s (keyOf p f)
  | 0x04, .f => .unmatched
  | 0x04, .t => lookupRecord s (keyOf .t f)
  | 0x05, .f => lookupRecord s (keyOf .f f)
  | 0x05, .t => .unmatched
  | 0x06, .f => .pass
  | 0x06, .t => .hold
  | 0x10, .f => if dstAddr f = s.agent.address then .request else .pass
  | 0x10, .t => if dstAddr f = s.agent.address then .misported else .pass
  | _, _ => .pass

/-- The sort of a frame: EtherType first, then the header check, then the kind (R5, R6). -/
def classify (p : Port) (f : Frame) (s : State) : Disposition :=
  if isTransport s.transportType f then
    if headerOk f then classifyTransport p f s else .malformed
  else .pass

/-- Changes the Sorter's counters by a function. -/
def State.modSorter (s : State) (g : Sorter → Sorter) : State := { s with sorter := g s.sorter }

/-- A frame matched to a HELD record: an ABORT is consumed by the Store; a DONE is an anomaly and is forwarded; any other
leaves the record as it is and is forwarded (R8, R51, R84, R90). -/
def takeHeldMatch (p : Port) (f : Frame) (i : SlotId) (h : HeldRecord) (s : State) : State :=
  if kindCode f = 0x05 then abortHeld i h s
  else if kindCode f = 0x04 then forward (oppositePort p) f (countAnomaly s)
  else forward (oppositePort p) f s

/-- What the Tracker does with a frame matched to a released record (R85, R86, R88, R89, R92). -/
def trackFrame (p : Port) (f : Frame) (r : OpenRecord) (s : State) : State :=
  match kindCode f with
  | 0x02 => modOpen r.ex.key (takeReady (word2 f)) s
  | 0x03 => trackData p f r s
  | 0x04 => closeRecord r (word0 f) (word2 f) s
  | 0x05 => modOpen r.ex.key takeAbort s
  | _ => s

/-- An MREQ that arrives at the Agent: the manager list test, then the space test, then the tail of the buffer (R161). -/
def bufferRequest (f : Frame) (s : State) : State :=
  if s.agent.managers ≠ [] ∧ srcAddr f ∉ s.agent.managers then
    { s with agent := { s.agent with droppedByList := s.agent.droppedByList + 1 } }
  else if 8 ≤ s.agent.buffer.length then
    { s with agent := { s.agent with droppedByFull := s.agent.droppedByFull + 1 } }
  else { s with agent := { s.agent with buffer := s.agent.buffer ++ [f] } }

/-- A HOLD consumed: counted, and its pause handed to the Scheduler (R9, R77). -/
def consumeHold (f : Frame) (s : State) : State := takeHold (word2 f) { s with holdConsumed := s.holdConsumed + 1 }

/-- Carries out a sort. `order` is read by a turn-away alone (R48). -/
def dispose (order : TurnAwayOrder) (d : Disposition) (p : Port) (f : Frame) (s : State) : State :=
  match d with
  | .pass => forward (oppositePort p) f s
  | .malformed => forward (oppositePort p) f (s.modSorter fun x => { x with malformed := x.malformed + 1 })
  | .unscheduled => forward (oppositePort p) f (s.modSorter fun x => { x with unscheduled := x.unscheduled + 1 })
  | .unmatched => forward (oppositePort p) f (s.modSorter fun x => { x with unmatched := x.unmatched + 1 })
  | .misported => forward (oppositePort p) f (s.modSorter fun x => { x with misported := x.misported + 1 })
  | .admission => takeCommand order f s
  | .held i h => takeHeldMatch p f i h s
  | .released r => forward (oppositePort p) f (trackFrame p f r s)
  | .hold => consumeHold f s
  | .request => bufferRequest f s

/-- The port's frames-received counter rises (R3). -/
def countReceived (p : Port) (s : State) : State := s.modPort p fun x => { x with received := x.received + 1 }

/-- A frame received on a port, with a good frame check sequence: counted and sorted; lost uncounted while reset lasts (R3,
log entry 5). -/
def receive (order : TurnAwayOrder) (p : Port) (f : Frame) (s : State) : State :=
  if s.inReset then s else dispose order (classify p f s) p f (countReceived p s)

/-- A frame that fails the frame check sequence: discarded, counted as a receive error alone (R3, log entry 6). -/
def receiveBad (p : Port) (s : State) : State :=
  if s.inReset then s else s.modPort p fun x => { x with receiveErrors := x.receiveErrors + 1 }

/-! ### Meanings. A frame of a row other than FRAME_RECEIVE and COMMAND is turned away only where it does not fit its row; the
DONE then comes first. -/

/-- FRAME_RECEIVE. -/
def execFrameReceive (p : Port) (fcsGood : Bool) (x : Arrival) (s : State) : Host.Outcome State Fault Refusal :=
  .next (if fcsGood then receive x.order p x.frame s else receiveBad p s)

/-- COMMAND: it arrives on Port F. -/
def execCommand (x : Arrival) (s : State) : Host.Outcome State Fault Refusal := .next (receive x.order .f x.frame s)

/-- READY: it arrives on Port T. -/
def execReady (f : Frame) (s : State) : Host.Outcome State Fault Refusal := .next (receive .doneFirst .t f s)

/-- DATA: it arrives on either port. -/
def execData (p : Port) (f : Frame) (s : State) : Host.Outcome State Fault Refusal := .next (receive .doneFirst p f s)

/-- DONE: it arrives on Port T. -/
def execDone (f : Frame) (s : State) : Host.Outcome State Fault Refusal := .next (receive .doneFirst .t f s)

/-- ABORT: it arrives on Port F. -/
def execAbort (f : Frame) (s : State) : Host.Outcome State Fault Refusal := .next (receive .doneFirst .f f s)

/-- HOLD: it arrives on Port T. -/
def execHold (f : Frame) (s : State) : Host.Outcome State Fault Refusal := .next (receive .doneFirst .t f s)

/-- MREQ_ARRIVAL: it arrives on Port F. -/
def execMreqArrival (f : Frame) (s : State) : Host.Outcome State Fault Refusal := .next (receive .doneFirst .f f s)

end Sys2Proof.Machine
end

