-- ==== Sys2Proof/Machine/Link.lean ====
section
/-! DEFINITION. Power, reset pin, link events and egress (R2, R3, R13 to R17): the meanings of their commands. -/

namespace Sys2Proof.Machine

/-! ### Power and reset -/

/-- POWER_ON: every block takes its power-on state, and reset lasts until RESET_END (R35 and each chapter's reset rule; log
entry 14). The model's own two fields are no part of the block (log entry 28). -/
def execPowerOn (s : State) : Host.Outcome State Fault Refusal := .next (State.held s.freeChoices s.pending)

/-- RST_N: the pin goes low; every block takes the state it has after power-on (R3, R35). -/
def execRstN (s : State) : Host.Outcome State Fault Refusal := .next (State.held s.freeChoices s.pending)

/-- The link state of an input level. -/
def linkOf (up : Bool) : LinkState := if up then .up else .down

/-- The end of reset: link states and straps sampled, the epoch pair and the scan channel started (R2, R131, R158). -/
def endReset (straps : BitVec 4) (linkF linkT : Bool) (s : State) : State :=
  if s.inReset then
    { s with
      inReset := false
      portF := { s.portF with link := linkOf linkF }
      portT := { s.portT with link := linkOf linkT }
      pace := startedPace
      agent := { s.agent with address := strapAddress straps } }
  else s

/-- RESET_END. -/
def execResetEnd (straps : BitVec 4) (linkF linkT : Bool) (s : State) : Host.Outcome State Fault Refusal :=
  .next (endReset straps linkF linkT s)

/-! ### Loss and link events -/

/-- Counts a frame lost at a port's egress: an egress discard, and an origin discard where it came from the origin queue
(R17, log entry 25). -/
def countDiscard (p : Port) (src : EgressSource) (s : State) : State :=
  let s1 := s.modPort p fun x => { x with egressDiscards := x.egressDiscards + 1 }
  if p = .f ∧ src = .own then { s1 with originDiscards := s1.originDiscards + 1 } else s1

/-- Sets a port's link state. -/
def setLink (p : Port) (l : LinkState) (s : State) : State := s.modPort p fun x => { x with link := l }

/-- Frees a port's transmitter. -/
def freeTransmitter (p : Port) (s : State) : State := s.modPort p fun x => { x with sending := none }

/-- The frame under transmission on a port is lost (R17). -/
def loseTransmission (p : Port) (s : State) : State :=
  match (s.port p).sending with
  | none => s
  | some (_, src) => countDiscard p src (freeTransmitter p s)

/-- A link-up event: on Port T also a decision trigger; a repeat changes nothing (R2, R78). -/
def raiseLink (p : Port) (s : State) : State :=
  if s.inReset ∨ (s.port p).link = .up then s
  else if p = .t then decideRelease (setLink p .up s)
  else setLink p .up s

/-- A link-down event: the frame under transmission is lost; a repeat changes nothing (R2, R17). -/
def lowerLink (p : Port) (s : State) : State :=
  if s.inReset ∨ (s.port p).link = .down then s else loseTransmission p (setLink p .down s)

/-- LINK_UP. -/
def execLinkUp (p : Port) (s : State) : Host.Outcome State Fault Refusal := .next (raiseLink p s)

/-- LINK_DOWN. -/
def execLinkDown (p : Port) (s : State) : Host.Outcome State Fault Refusal := .next (lowerLink p s)

/-! ### Egress -/

/-- The frame at the head of a port's own source: the origin queue on Port F, the release slot on Port T. -/
def ownHead (s : State) : Port → Option Frame
  | .f => s.originQueue.head?
  | .t => s.releaseSlot

/-- The egress arbiter's choice: the one source that holds a frame, or the one the turn names (R14, R16). -/
def chooseSource (p : Port) (s : State) : Option (Frame × EgressSource) :=
  match (s.port p).forwarded.head?, ownHead s p with
  | none, none => none
  | some x, none => some (x, .forwarded)
  | none, some y => some (y, .own)
  | some x, some y =>
    match (s.port p).turn with
    | .forwarded => some (x, .forwarded)
    | .own => some (y, .own)

/-- The source the turn names after a take (R14, R16). -/
def turnAfter : EgressSource → EgressSource
  | .forwarded => .own
  | .own => .forwarded

/-- Removes the taken frame from its source. -/
def removeTaken (p : Port) (src : EgressSource) (s : State) : State :=
  match src with
  | .forwarded => s.modPort p fun x => { x with forwarded := x.forwarded.tail }
  | .own =>
    match p with
    | .f => { s with originQueue := s.originQueue.tail }
    | .t => { s with releaseSlot := none }

/-- A taken frame is transmitted where the link is UP, discarded where it is DOWN (R14, R16, R17). -/
def sendOrDiscard (p : Port) (f : Frame) (src : EgressSource) (s : State) : State :=
  if (s.port p).link = .up then s.modPort p fun x => { x with sending := some (f, src) } else countDiscard p src s

/-- The release-slot-free event takes a decision (R13, R71). -/
def afterTake (p : Port) (src : EgressSource) (s : State) : State :=
  if p = .t ∧ src = .own then decideRelease s else s

/-- One take of a port's free transmitter (R13 to R17). -/
def takeNext (p : Port) (s : State) : State :=
  if s.inReset ∨ (s.port p).sending.isSome then s
  else
    match chooseSource p s with
    | none => s
    | some (f, src) =>
      afterTake p src
        (sendOrDiscard p f src ((removeTaken p src s).modPort p fun x => { x with turn := turnAfter src }))

/-- EGRESS_TAKE. -/
def execEgressTake (p : Port) (s : State) : Host.Outcome State Fault Refusal := .next (takeNext p s)

/-- The end of a transmission: the frame is counted and the transmitter free again (R14, R16). -/
def endTransmission (p : Port) (s : State) : State :=
  if s.inReset then s
  else
    match (s.port p).sending with
    | none => s
    | some _ => s.modPort p fun x => { x with sending := none, transmitted := x.transmitted + 1 }

/-- TRANSMISSION_END. -/
def execTransmissionEnd (p : Port) (s : State) : Host.Outcome State Fault Refusal := .next (endTransmission p s)

end Sys2Proof.Machine
end

