-- ==== Sys2Proof/Machine/Pace.lean ====
section
/-! DEFINITION. The Pace Bank (R120 to R132): the epoch boundary with the apply of a commit (R155, R156), scan passes with the
Tracker's walk (R95 to R97), the expiries, and the pace tick. -/

namespace Sys2Proof.Machine

/-! ### Channels -/

/-- Pace ticks in one count of a prescale (R120). -/
def prescaleTicks : Prescale → Nat
  | .div1 => 1
  | .div16 => 16
  | .div256 => 256
  | .div4096 => 4096

/-- The count a reload loads: a reload of 0 stands for the largest count (R120). -/
def loadCount (largest reload : Nat) : Nat := if reload = 0 then largest else reload

/-- The largest count of the cascaded pair and of an 8-bit channel (R120). -/
def pairLargest : Nat := 65536

/-- The largest count of an 8-bit channel (R120). -/
def channelLargest : Nat := 256

/-- A running channel at its expiry: loaded with the settings given; its prescale phase goes on, and restarts at 0 where the
settings differ from those it ran at (R120, R125, R126). -/
def reloadChannel (largest : Nat) (p : Prescale) (reload : Nat) (c : Channel) : Channel :=
  { c with
    count := loadCount largest reload
    phase := if c.prescale = p ∧ c.reload = reload then c.phase else 0
    prescale := p
    reload := reload }

/-- A channel started with the settings given (R122). -/
def startChannel (largest : Nat) (p : Prescale) (reload : Nat) : Channel :=
  { count := loadCount largest reload, run := .running, phase := 0, prescale := p, reload := reload }

/-- The length in pace ticks of an epoch under given settings (R124). -/
def epochLength (c : PaceSettings) : Nat := prescaleTicks c.epochPrescale * loadCount pairLargest c.epochReload

/-- The active pace settings. -/
def State.paceSettings (s : State) : PaceSettings := s.policy.active.pace

/-- Changes the Pace Bank by a function. -/
def State.modPace (s : State) (g : PaceBank → PaceBank) : State := { s with pace := g s.pace }

/-! ### The boundary's parts in the Pace Bank -/

/-- The expiry of the pair: the epoch number rises, the pair is loaded with the settings active at the end of the closing
epoch, and the two lengths are recorded (R124, R125). -/
def turnEpoch (c : PaceSettings) (b : PaceBank) : PaceBank :=
  { b with
    epoch := b.epoch + 1
    epochPair := reloadChannel pairLargest c.epochPrescale c.epochReload b.epochPair
    closingLength := b.openLength
    openLength := epochLength c }

/-- A meter at a boundary: loaded and started where its binding names a slot, put STOPPED where it is none (R129). -/
def reloadMeter (c : MeterSettings) (m : MeterChannel) : MeterChannel :=
  match c.binding with
  | some _ => { m with count := c.threshold, run := .running }
  | none => { m with run := .stopped }

/-- Both meters' reload (R129). -/
def reloadMeters (s : State) : State :=
  s.modPace fun b =>
    { b with
      meterA := reloadMeter (meterSettings s .a) b.meterA
      meterB := reloadMeter (meterSettings s .b) b.meterB }

/-- A boundary's count taken by a CAL that runs or is stopping: at the count that would bring it to 0 it is loaded again,
STOPPED, and its expiry waits to be taken; a stopping one otherwise stops with the lowered count (R120 to R122, R127). -/
def countCal (c : CalChannel) : CalChannel :=
  if c.run = .stopped then c
  else if c.count ≤ 1 then { c with count := c.reload, run := .stopped, due := true }
  else { c with count := c.count - 1, run := if c.run = .stopping then .stopped else c.run }

/-- CAL at a boundary: an arming is used, and that boundary not counted; otherwise the boundary is a count (R127). -/
def boundaryCal (c : CalChannel) : CalChannel :=
  match c.armed with
  | some n => { c with armed := none, count := n, reload := n, run := .running }
  | none => countCal c

/-! ### The apply of a commit -/

/-- The scan channel at an apply (R126). -/
def applyScan (c : PaceSettings) (x : Channel) : Channel :=
  match c.scanEnable, x.run with
  | false, .running => { x with run := .stopping }
  | false, .stopping => x
  | false, .stopped => x
  | true, .stopped => startChannel channelLargest c.scanPrescale c.scanReload
  | true, .stopping => { x with run := .running }
  | true, .running => x

/-- The staged image becomes active and the pending flag clears (R155). The pending digest, which has no meaning from here on
(R149), keeps the applied commit's value: the model's choice, log entry 36. -/
def activateStaged (s : State) : State :=
  { s with policy := { s.policy with active := s.policy.staged, commitPending := false } }

/-- The owners' parts of an apply, the active image already the new one and `old` the one it replaced: the Monitor's
tracker, the balances' clamp, the scan channel, the spool (R80, R117, R126, R146). -/
def applyOwners (old : Image) (s : State) : State :=
  let s1 := if monitorPolicyChanged old s.policy.active then s.modMonitor applyMonitor else s
  let s2 := (clampBalances s1).modPace fun b => { b with scan := applyScan s.paceSettings b.scan }
  applySpool old s2

/-- The apply: the image, the owners' parts, then the COMMIT APPLIED record and notice (R155, R156). -/
def applyCommit (s : State) : State :=
  raiseNotice .commitApplied
    (offerEvent .commitApplied none (s.policy.pendingDigest.setWidth 32)
      (applyOwners s.policy.active (activateStaged s)))

/-- The apply where a commit is pending. -/
def applyIfPending (s : State) : State := if s.policy.commitPending then applyCommit s else s

/-! ### The epoch boundary -/

/-- The Pace Bank's and the Policy Stage's part of a boundary: the pair, then the apply, then meters and CAL under the new
settings (R124, R127, R129, R155). -/
def openBoundary (s : State) : State :=
  (reloadMeters (applyIfPending (s.modPace (turnEpoch s.paceSettings)))).modPace fun b =>
    { b with cal := boundaryCal b.cal }

/-- The spool's step where it stands at this place. -/
def spoolAt (here turn : SpoolTurn) (c : ClosingSummary) (s : State) : State :=
  if turn = here then spoolBoundaryStep c s else s

/-- The Scheduler opens an epoch of this pie: the per-epoch values, the refill, promotion (R58 to R64). -/
def payOpened (pie : Nat) (s : State) : State := promoteHeads (refill (openEpoch pie s))

/-- A boundary after the Pace Bank's step: the Monitor's close, the Scheduler's opening with its release decision, and the
spool's step at its place (R58 to R65, R102, R139, log entry 8). `closing` is the number of the closing epoch, `pie` the pie
fixed for the opened one. -/
def schedulerBoundary (turn : SpoolTurn) (closing : EpochNo) (pie : Nat) (s : State) : State :=
  let x := measure closing (closingReport s) s
  let s1 := closeEpoch x s
  let c := summaryOf x s1.monitor
  let s2 := payOpened pie (spoolAt .beforePay turn c s1)
  spoolAt .afterDecision turn c (decideRelease (spoolAt .afterPay turn c s2))

/-- A boundary up to the Monitor's close, which is still to come: the Pace Bank's, the Policy Stage's and the Scheduler's steps.
The offer is read as the closing epoch left it, before the apply; the closing report is formed before any per-epoch value
changes and stands until the close takes it. A release from here on is a charge of the opened epoch (R58, R59, R65, R102, R105).
-/
def openEarly (s : State) : State :=
  let u := openBoundary s
  (decideRelease (payOpened (nextPie s (s.pace.epoch + 1)) u)).modPace fun b => { b with opened := some (closingReport u) }

/-- The rest of a boundary that stands opened: the Monitor's close with the report that stands, then the spool's step with the
closing summary (R102, R139, log entry 35). -/
def closeOpened (r : ClosingReport) (s : State) : State :=
  let x := measure (s.pace.epoch - 1) r s
  let t := closeEpoch x (s.modPace fun b => { b with opened := none })
  spoolBoundaryStep (summaryOf x t.monitor) t

/-- An epoch boundary: the whole of it, or the rest of one that CAL's expiry has opened, where `turn` has no effect. -/
def epochBoundary (turn : SpoolTurn) (s : State) : State :=
  if s.inReset then s
  else
    match s.pace.opened with
    | some r => closeOpened r s
    | none => schedulerBoundary turn s.pace.epoch (nextPie s (s.pace.epoch + 1)) (openBoundary s)

/-- EPOCH_BOUNDARY. -/
def execEpochBoundary (turn : SpoolTurn) (s : State) : Host.Outcome State Fault Refusal := .next (epochBoundary turn s)

/-! ### Expiries of CAL, the meters and the hold countdown -/

/-- The calibration record is COMPLETE; the CALIBRATION DONE record and notice (R115). -/
def completeCalibration (s : State) : State :=
  raiseNotice .calibrationDone
    (offerEvent .calibrationDone none (BitVec.ofNat 32 s.monitor.cal.requested)
      (s.modMonitor fun m => { m with cal := { m.cal with status := .complete } }))

/-- The Monitor takes a CAL expiry: nothing where the record is not RUNNING (R115). -/
def takeCompletionOfCal (s : State) : State := if s.monitor.cal.status = .running then completeCalibration s else s

/-- The count that CAL takes at the next boundary is its expiry (R120, R127). -/
def calExpiresNext (c : CalChannel) : Bool := decide (c.run ≠ .stopped) && decide (c.count ≤ 1) && c.armed.isNone

/-- CAL's expiry can be taken ahead of the close: no boundary stands opened, and the next one is CAL's last count (R114). -/
def expiryAhead (b : PaceBank) : Bool := b.opened.isNone && calExpiresNext b.cal

/-- A waiting expiry of CAL is taken by the Monitor (R115, log entry 10). -/
def takeWaitingExpiry (s : State) : State :=
  takeCompletionOfCal (s.modPace fun b => { b with cal := { b.cal with due := false } })

/-- CAL's expiry is taken by the Monitor: one that a boundary left waiting; or that of the next boundary, ahead of its close
(R114): the boundary is opened, which brings the expiry, the new epoch number (R123, R124) and the Scheduler's step (R59), and
the expiry is taken (log entry 35). -/
def takeCalExpiry (s : State) : State :=
  if s.inReset then s
  else if s.pace.cal.due then takeWaitingExpiry s
  else if expiryAhead s.pace then takeWaitingExpiry (openEarly s)
  else s

/-- CAL_EXPIRY. -/
def execCalExpiry (s : State) : Host.Outcome State Fault Refusal := .next (takeCalExpiry s)

/-- A meter's channel. -/
def meterChannel (s : State) : Meter → MeterChannel
  | .a => s.pace.meterA
  | .b => s.pace.meterB

/-- Removes the oldest waiting expiry of a meter. -/
def dropDue (m : Meter) (s : State) : State :=
  match m with
  | .a => s.modPace fun b => { b with meterA := { b.meterA with due := b.meterA.due.tail } }
  | .b => s.modPace fun b => { b with meterB := { b.meterB with due := b.meterB.due.tail } }

/-- The number of a meter in a BURST record's value (R130). -/
def meterNumber : Meter → Nat
  | .a => 0
  | .b => 1

/-- The value of a BURST record: meter, lift epochs, lift amount (R130). -/
def burstValue (m : Meter) (b : BurstReport) : BitVec 32 :=
  BitVec.ofNat 32 (meterNumber m * 2 ^ 24 + b.liftEpochs * 2 ^ 16 + b.liftAmount)

/-- A meter's oldest waiting expiry is taken: the report to the Scheduler, then the BURST record (R73, R130, log entry
10). -/
def takeMeterExpiry (m : Meter) (s : State) : State :=
  if s.inReset then s
  else
    match (meterChannel s m).due with
    | [] => s
    | b :: _ => offerEvent .burst (some b.slot) (burstValue m b) (burstLift b (dropDue m s))

/-- METER_EXPIRY. -/
def execMeterExpiry (m : Meter) (s : State) : Host.Outcome State Fault Refusal := .next (takeMeterExpiry m s)

/-- The countdown has come to its end: it reaches 0 at the next tick (R77). -/
def holdDue (c : Scheduler) : Bool :=
  match c.holdTicks with
  | none => false
  | some n => decide (n ≤ 1)

/-- The running countdown expires and stops where it has come to its end; one that a HOLD has restarted since does not expire
(R77, R78). -/
def takeHoldExpiry (s : State) : State :=
  if s.inReset = false ∧ holdDue s.sched then decideIfHoldEnded s (setHoldTicks none s) else s

/-- HOLD_COUNTDOWN_EXPIRY. -/
def execHoldCountdownExpiry (s : State) : Host.Outcome State Fault Refusal := .next (takeHoldExpiry s)

/-! ### The scan pass -/

/-- A record's age in epochs (R94). -/
def recordAge (s : State) (r : OpenRecord) : Nat := ageOf s.pace.epoch r.releaseEpoch

/-- The value of a STALE record: sectors moved, ready amount (R95). -/
def staleValue (r : OpenRecord) : BitVec 32 := BitVec.ofNat 32 (r.ex.moved * 2 ^ 16 + r.ready.getD 0)

/-- A record marked STALE. -/
def markStale (r : OpenRecord) : OpenRecord := { r with state := .stale }

/-- The change of a record to STALE: the state, the decrement under the generation test, the STALE record (R95, R76). -/
def turnStale (r : OpenRecord) (s : State) : State :=
  let s1 := modOpen r.ex.key markStale s
  offerEvent .stale (some r.ex.slot) (staleValue r)
    (if generationTest s r.ex then decrementOutstanding r.ex.slot s1 else s1)

/-- The walk turns this record STALE (R95). -/
def turnsStale (s : State) (r : OpenRecord) : Bool := decide (r.state ≠ .stale) && decide (s.part.staleLimit ≤ recordAge s r)

/-- The walk orphans this record, STALE before the pass or by it (R96). -/
def turnsOrphan (s : State) (r : OpenRecord) : Bool :=
  (decide (r.state = .stale) || turnsStale s r) && decide (s.part.staleLimit + s.part.orphanLimit ≤ recordAge s r)

/-- Orphans a record: counted and freed (R96). -/
def orphanRecord (r : OpenRecord) (s : State) : State :=
  freeOpen r.ex.key { s with tracker := { s.tracker with orphaned := s.tracker.orphaned + 1 } }

/-- The walk's visit to one record (R95, R96). -/
def walkRecord (s : State) (r : OpenRecord) : State :=
  let s1 := if turnsStale s r then turnStale r s else s
  if turnsOrphan s r then orphanRecord r s1 else s1

/-- The Tracker's walk of the released list from its head (R95). -/
def staleWalk (s : State) : State := s.tracker.released.foldl walkRecord s

/-- The walk lowers some slot's outstanding count, so a decision follows it (R95, R97). -/
def walkTriggers (s : State) : Bool := s.tracker.released.any fun r => turnsStale s r && generationTest s r.ex

/-- The Directory's part of a pass where it stands at this place. -/
def idleAt (here place : ScanPlace) (s : State) : State := if place = here then idleMarking s else s

/-- The Scheduler's part of a pass where it stands at this place. -/
def starveAt (here place : ScanPlace) (s : State) : State := if place = here then starveCheck s else s

/-- The three blocks' parts of a pass: the walk, the decision that follows it where it lowered a count, the other two parts
at their places (R126, log entry 9). -/
def deliverPass (idle starve : ScanPlace) (s : State) : State :=
  let s1 := starveAt .beforeWalk starve (idleAt .beforeWalk idle s)
  let s2 := starveAt .afterWalk starve (idleAt .afterWalk idle (staleWalk s1))
  let s3 := if walkTriggers s1 then decideRelease s2 else s2
  starveAt .afterDecision starve (idleAt .afterDecision idle s3)

/-- The scan channel at its expiry: loaded with the active settings; RUNNING goes on, STOPPING becomes STOPPED (R121, R122,
R126). -/
def expireScan (c : PaceSettings) (x : Channel) : Channel :=
  { reloadChannel channelLargest c.scanPrescale c.scanReload x with
    run := if x.run = .stopping then .stopped else x.run }

/-- The channel can deliver a pass: it is RUNNING, or STOPPING with one count left (R122, log entry 4). -/
def scanCanExpire (x : Channel) : Bool := decide (x.run = .running) || (decide (x.run = .stopping) && decide (x.count ≤ 1))

/-- A scan pass (R126). -/
def scanPass (idle starve : ScanPlace) (s : State) : State :=
  if s.inReset ∨ scanCanExpire s.pace.scan = false then s
  else deliverPass idle starve (s.modPace fun b => { b with scan := expireScan s.paceSettings b.scan })

/-- SCAN_PASS. -/
def execScanPass (idle starve : ScanPlace) (s : State) : Host.Outcome State Fault Refusal := .next (scanPass idle starve s)

/-- A STOPPING scan channel takes a count that is not its expiry: STOPPED with the lowered count, no pass (R122). -/
def stopScan (s : State) : State :=
  if s.inReset then s
  else if s.pace.scan.run = .stopping ∧ 1 < s.pace.scan.count then
    s.modPace fun b => { b with scan := { b.scan with run := .stopped, count := b.scan.count - 1 } }
  else s

/-- SCAN_CHANNEL_STOPPED. -/
def execScanChannelStopped (s : State) : Host.Outcome State Fault Refusal := .next (stopScan s)

/-! ### The pace tick: what a step does on an empty queue (log entry 3) -/

/-- The next tick completes a prescaled count of the channel (R120). -/
def countDue (c : Channel) : Bool := decide (c.run ≠ .stopped) && decide (prescaleTicks c.prescale ≤ c.phase + 1)

/-- The count that the next tick completes would bring the channel to 0 (R120). -/
def expiryDue (c : Channel) : Bool := countDue c && decide (c.count ≤ 1)

/-- A tick of a channel that counts pace ticks. An expiry, and the last count of a STOPPING channel, are left to the command
that the tick posts. -/
def tickChannel (c : Channel) : Channel :=
  if c.run = .stopped then c
  else if countDue c then
    if c.count ≤ 1 ∨ c.run = .stopping then { c with phase := 0 } else { c with phase := 0, count := c.count - 1 }
  else { c with phase := c.phase + 1 }

/-- A tick of the hold countdown; its expiry is left to the command that the tick posts. -/
def tickHold (c : Scheduler) : Scheduler :=
  match c.holdTicks with
  | none => c
  | some n => if n ≤ 1 then c else { c with holdTicks := some (n - 1) }

/-- One pace tick: the pace time, the HOLD SPAN pair, the two tick-counting channels, the hold countdown (R120, R123,
R128). -/
def tickState (s : State) : State :=
  { s with
    sched := tickHold s.sched
    pace :=
      { s.pace with
        time := s.pace.time + 1
        holdSpan := if holdInForce s then satAdd 65535 s.pace.holdSpan 1 else s.pace.holdSpan
        epochPair := tickChannel s.pace.epochPair
        scan := tickChannel s.pace.scan } }

/-- The place of the spool's step that a free value gives. -/
def spoolTurnOf (n : Nat) : SpoolTurn :=
  match n % 3 with
  | 0 => .beforePay
  | 1 => .afterPay
  | _ => .afterDecision

/-- The place in a pass that a free value gives. -/
def scanPlaceOf (n : Nat) : ScanPlace :=
  match n % 3 with
  | 0 => .beforeWalk
  | 1 => .afterWalk
  | _ => .afterDecision

/-- The scan channel's event of the next tick: a pass, or its stop. -/
def scanEvents (idle starve : ScanPlace) (c : Channel) : List Instr :=
  if expiryDue c then [.scanPass idle starve]
  else if countDue c && decide (c.run = .stopping) then [.scanChannelStopped]
  else []

/-- The boundary's events of the next tick: the boundary itself, and CAL's expiry where this boundary is its last count, which
may be taken before the close or after it (R114). -/
def boundaryEvents (turn : SpoolTurn) (b : PaceBank) : List Instr :=
  if expiryDue b.epochPair then .epochBoundary turn :: if expiryAhead b then [.calExpiry] else [] else []

/-- The events that the next tick brings, with the operands that free values give (log entry 12). -/
def tickEvents (s : State) : List Instr :=
  boundaryEvents (spoolTurnOf (Config.choice s.freeChoices)) s.pace ++
    scanEvents (scanPlaceOf (Config.choice (s.freeChoices + 1))) (scanPlaceOf (Config.choice (s.freeChoices + 2)))
      s.pace.scan ++
    if holdDue s.sched then [.holdCountdownExpiry] else []

/-- What waits to be taken and lets no time pass: one METER_EXPIRY for each waiting report, one CAL_EXPIRY, the rest of a
boundary that stands opened (log entries 10 and 35). -/
def dueEvents (turn : SpoolTurn) (b : PaceBank) : List Instr :=
  b.meterA.due.map (fun _ => .meterExpiry .a) ++ b.meterB.due.map (fun _ => .meterExpiry .b) ++
    (if b.cal.due then [.calExpiry] else []) ++ if b.opened.isSome then [.epochBoundary turn] else []

/-- The commands in an order that free values give, counted from `n` (log entry 12). -/
def arrange : Nat → List Instr → List Instr
  | _, [] => []
  | _, [c] => [c]
  | n, c :: d :: rest =>
    let tail := arrange (n + 1) (d :: rest)
    tail.insertIdx (Config.choice n % (tail.length + 1)) c

/-- The order of the events posted together: the scan channel's stop, which is a count taken by the tick itself, comes before
the others; those stand in the order that free values give (log entry 12). -/
def eventOrder (n : Nat) (events : List Instr) : List Instr :=
  events.filter (fun c => decide (c = .scanChannelStopped)) ++
    arrange n (events.filter fun c => !decide (c = .scanChannelStopped))

/-- Puts events into the queue in their order; three free values are kept for their operands. -/
def postEvents (events : List Instr) (s : State) : State :=
  { s with
    pending := s.pending ++ eventOrder (s.freeChoices + 3) events
    freeChoices := s.freeChoices + 3 + events.length }

/-- What a step does on an empty queue: nothing while reset lasts; else the waiting events are posted; else one pace tick
goes by, and the events it brings are posted (log entry 3). -/
def idle (s : State) : State :=
  if s.inReset then s
  else
    match dueEvents (spoolTurnOf (Config.choice s.freeChoices)) s.pace with
    | c :: rest => postEvents (c :: rest) s
    | [] =>
      match tickEvents s with
      | [] => tickState s
      | c :: rest => postEvents (c :: rest) (tickState s)

end Sys2Proof.Machine
end

