-- ==== Sys2Proof/Machine/SoftReset.lean ====
section
/-! DEFINITION. The two soft resets, carried out once their response is placed (R169 to R171, and each chapter's reset rules). -/

namespace Sys2Proof.Machine

/-! ### FULL -/

/-- A port across a FULL reset: counters 0; link state, turn, queue and transmission kept (R170). -/
def fullResetPort (x : PortSide) : PortSide :=
  { resetPort x.link with forwarded := x.forwarded, turn := x.turn, sending := x.sending }

/-- The state a FULL reset leaves: every block as after power-on, with the link states, turns and queues, the frames under
transmission, the release slot, the origin queue, the management address and the manager list kept (R12, R13, R15, R170). -/
def afterFullReset (s : State) : State :=
  { State.held s.freeChoices s.pending with
    inReset := false
    portF := fullResetPort s.portF
    portT := fullResetPort s.portT
    originQueue := s.originQueue
    releaseSlot := s.releaseSlot
    pace := startedPace
    agent := { resetAgent s.agent.address with managers := s.agent.managers } }

/-- The FULL reset is carried out, where one is due: every block's part in one step, the model's choice (log entry 32). -/
def fullReset (s : State) : State := if s.inReset = false ∧ s.agent.resetDue = some .full then afterFullReset s else s

/-- FULL_RESET. -/
def execFullReset (s : State) : Host.Outcome State Fault Refusal := .next (fullReset s)

/-! ### TRAFFIC -/

/-- The Store's part: every HELD record withdrawn slot by slot, then every other record freed (R55). -/
def trafficStore (s : State) : State :=
  let s1 := allSlots.foldl withdrawAll s
  { s1 with tracker := { s1.tracker with released := [] } }

/-- The Directory's and the Scheduler's parts at one slot: balance, outstanding, released this epoch and lift 0, idle state
clear, a DRAINING slot VACANT (R36, R82). -/
def trafficSlot (x : Slot) : Slot :=
  let y :=
    { x with
      balance := 0, outstanding := 0, releasedEpoch := 0, liftRemaining := 0, liftAmount := 0, admissionMark := false
      idleFlag := false, idleRun := 0 }
  if x.state = .draining then drainedSlot y else y

/-- The Scheduler's part-wide part: pie used 0, the countdown stopped (R82). -/
def trafficScheduler (c : Scheduler) : Scheduler := { c with pieUsed := 0, holdTicks := none }

/-- The Monitor's part but for the calibration (R119). -/
def trafficMonitor (m : Monitor) : Monitor :=
  { seekAfresh m with forced := none, silentRun := 0, completed := 0, count := 0, latencySum := 0, answered := false }

/-- Every block's part of a TRAFFIC reset (R171), taken in one step in this order: the Store's, the Directory's and the
Scheduler's, the Monitor's, the Pace Bank's. R169 fixes no order: the model's choice (log entry 32). -/
def trafficBlocks (s : State) : State :=
  let s1 := (trafficStore s).mapSlots fun _ x => trafficSlot x
  let s2 := { s1 with sched := trafficScheduler s1.sched, monitor := trafficMonitor s1.monitor }
  reloadMeters ((cancelCalibration s2).modPace fun b => { b with holdSpan := 0 })

/-- The Agent goes on to the next request. -/
def endResetDue (s : State) : State := { s with agent := { s.agent with resetDue := none } }

/-- The TRAFFIC reset is carried out, where one is due: the blocks' parts, then the RESET record (R171). -/
def trafficReset (s : State) : State :=
  if s.inReset = false ∧ s.agent.resetDue = some .traffic then
    endResetDue (offerEvent .reset none 2#32 (trafficBlocks s))
  else s

/-- TRAFFIC_RESET. -/
def execTrafficReset (s : State) : Host.Outcome State Fault Refusal := .next (trafficReset s)

end Sys2Proof.Machine
end

