-- ==== Sys2Proof/Machine/Dispatch.lean ====
section
/-! DEFINITION. The meaning of every command: one arm per constructor. -/

namespace Sys2Proof.Machine

def exec (i : Instr) (s : State) : Host.Outcome State Fault Refusal :=
  match i with
  | .powerOn => Sys2Proof.Machine.execPowerOn s
  | .rstN => Sys2Proof.Machine.execRstN s
  | .resetEnd straps linkF linkT => Sys2Proof.Machine.execResetEnd straps linkF linkT s
  | .linkUp p => Sys2Proof.Machine.execLinkUp p s
  | .linkDown p => Sys2Proof.Machine.execLinkDown p s
  | .frameReceive p fcsGood arrival => Sys2Proof.Machine.execFrameReceive p fcsGood arrival s
  | .command arrival => Sys2Proof.Machine.execCommand arrival s
  | .ready frame => Sys2Proof.Machine.execReady frame s
  | .data p frame => Sys2Proof.Machine.execData p frame s
  | .done frame => Sys2Proof.Machine.execDone frame s
  | .abort frame => Sys2Proof.Machine.execAbort frame s
  | .hold frame => Sys2Proof.Machine.execHold frame s
  | .holdCountdownExpiry => Sys2Proof.Machine.execHoldCountdownExpiry s
  | .egressTake p => Sys2Proof.Machine.execEgressTake p s
  | .transmissionEnd p => Sys2Proof.Machine.execTransmissionEnd p s
  | .epochBoundary turn => Sys2Proof.Machine.execEpochBoundary turn s
  | .calExpiry => Sys2Proof.Machine.execCalExpiry s
  | .meterExpiry m => Sys2Proof.Machine.execMeterExpiry m s
  | .scanPass idle starve => Sys2Proof.Machine.execScanPass idle starve s
  | .mreqArrival frame => Sys2Proof.Machine.execMreqArrival frame s
  | .responsePlacement => Sys2Proof.Machine.execResponsePlacement s
  | .unknownKind => Sys2Proof.Machine.execUnknownKind s
  | .queryPart => Sys2Proof.Machine.execQueryPart s
  | .stageSlot => Sys2Proof.Machine.execStageSlot s
  | .stagePart => Sys2Proof.Machine.execStagePart s
  | .stageCost => Sys2Proof.Machine.execStageCost s
  | .stageClass => Sys2Proof.Machine.execStageClass s
  | .stageProfile => Sys2Proof.Machine.execStageProfile s
  | .stageTracker => Sys2Proof.Machine.execStageTracker s
  | .stagePace => Sys2Proof.Machine.execStagePace s
  | .stageSpool => Sys2Proof.Machine.execStageSpool s
  | .stageNotice => Sys2Proof.Machine.execStageNotice s
  | .commit => Sys2Proof.Machine.execCommit s
  | .discard => Sys2Proof.Machine.execDiscard s
  | .readStageDigest => Sys2Proof.Machine.execReadStageDigest s
  | .bind => Sys2Proof.Machine.execBind s
  | .unbind => Sys2Proof.Machine.execUnbind s
  | .suspend => Sys2Proof.Machine.execSuspend s
  | .resume => Sys2Proof.Machine.execResume s
  | .clearQuarantine => Sys2Proof.Machine.execClearQuarantine s
  | .readSlot => Sys2Proof.Machine.execReadSlot s
  | .readCounters => Sys2Proof.Machine.execReadCounters s
  | .readMonitor => Sys2Proof.Machine.execReadMonitor s
  | .forceProfile => Sys2Proof.Machine.execForceProfile s
  | .releaseForce => Sys2Proof.Machine.execReleaseForce s
  | .calibrate => Sys2Proof.Machine.execCalibrate s
  | .calibrateCancel => Sys2Proof.Machine.execCalibrateCancel s
  | .spoolRead => Sys2Proof.Machine.execSpoolRead s
  | .spoolTrigger => Sys2Proof.Machine.execSpoolTrigger s
  | .spoolClear => Sys2Proof.Machine.execSpoolClear s
  | .clearNotices => Sys2Proof.Machine.execClearNotices s
  | .setManagers => Sys2Proof.Machine.execSetManagers s
  | .rename => Sys2Proof.Machine.execRename s
  | .resetPartFull => Sys2Proof.Machine.execResetPartFull s
  | .resetPartTraffic => Sys2Proof.Machine.execResetPartTraffic s
  | .fullReset => Sys2Proof.Machine.execFullReset s
  | .trafficReset => Sys2Proof.Machine.execTrafficReset s
  | .scanChannelStopped => Sys2Proof.Machine.execScanChannelStopped s

end Sys2Proof.Machine
end

