-- ==== Sys2Proof/Safety.lean ====
section
/-! DEFINITION. What holds in every state the part can reach: bounds of queues, ranges of policy values, exchange keys, the
admission account, balances, the address map, outstanding counts, the named profile, the spool's capacity. -/

namespace Sys2Proof.Machine

/-! ### Queues (R12, R15, R160, R161) -/

/-- No queue exceeds its stated size. -/
abbrev QueuesBounded (s : State) : Prop :=
  s.originQueue.length ≤ 64 ∧ s.portF.forwarded.length ≤ 128 ∧ s.portT.forwarded.length ≤ 128 ∧
    s.agent.buffer.length ≤ 8 ∧ s.agent.managers.length ≤ 4

/-! ### Policy ranges (R150) -/

/-- A value lies in lo..hi. -/
def within (lo hi v : Nat) : Bool := decide (lo ≤ v ∧ v ≤ hi)

/-- An optional value is absent or lies in lo..hi. -/
def optWithin (lo hi : Nat) : Option Nat → Bool
  | none => true
  | some v => within lo hi v

/-- STAGE SLOT's ranges. -/
def slotPolicyInRange (p : SlotPolicy) : Bool :=
  within 1 255 p.weight && within 0 16383 p.floor && within 1 32767 p.cap && optWithin 1 65535 p.ceiling &&
    within 0 32767 p.debtLimit && within 1 256 p.holdLimit && within 1 64 p.concurrency && optWithin 0 15 p.batching

/-- STAGE PART's ranges. -/
def partInRange (p : PartValues) : Bool :=
  within 0 256 p.feedReserve && within 0x0600 0xFFFF p.transportType.toNat && decide (p.transportType ≠ 0x8100#16) &&
    within 1 255 p.violationThreshold && within 1 65535 p.staleLimit && within 1 65535 p.orphanLimit &&
    within 1 65535 p.starveLimit && within 1 255 p.idleLimit

/-- STAGE COST's ranges for one operation. -/
def costEntryInRange (c : CostEntry) : Bool := within 1 64 c.multiplier && within 0 255 c.overhead

/-- STAGE COST's ranges. -/
def costInRange (t : CostTable) : Bool :=
  costEntryInRange t.read && costEntryInRange t.write && costEntryInRange t.flush && costEntryInRange t.admin

/-- STAGE CLASS's ranges. -/
def classesInRange (t : ClassTable) : Bool :=
  optWithin 1 255 t.feed && optWithin 1 255 t.live && optWithin 1 255 t.study && optWithin 1 255 t.bulk

/-- STAGE PROFILE's ranges. -/
def profileInRange (p : Profile) : Bool :=
  within 0 65535 p.rateLow && within 0 65535 p.rateHigh && within 0 4294967295 p.latencyCeiling && within 1 65535 p.budget

/-- STAGE TRACKER's ranges. -/
def trackerInRange (t : TrackerParams) : Bool :=
  within 1 8 t.saturation && within 1 31 t.lockCount && within 1 7 t.unlockCount && within 1 255 t.silentCount &&
    within 1 65535 t.fallbackBudget && within 1 65535 t.probeBudget

/-- STAGE PACE's ranges for one meter. -/
def meterInRange (m : MeterSettings) : Bool :=
  within 1 256 m.threshold && within 0 16383 m.liftAmount && within 1 255 m.liftEpochs

/-- STAGE PACE's ranges. -/
def paceInRange (p : PaceSettings) : Bool :=
  within 0 65535 p.epochReload && within 0 255 p.scanReload && meterInRange p.meterA && meterInRange p.meterB

/-- STAGE SPOOL's ranges. -/
def spoolInRange (p : SpoolSettings) : Bool :=
  optWithin 0 15 p.summaryBatching && decide (p.markSpacing ∈ [none, some 1, some 8, some 32]) &&
    decide (p.compression ∈ [none, some 8, some 16, some 32]) && triggerMaskOk p.triggerMask && within 0 2048 p.postReserve &&
    within 1 2048 p.watermark && within 1 2047 p.batchThreshold

/-- Every value of an image lies in the range its STAGE request accepts. -/
abbrev imageInRange (m : Image) : Prop :=
  (∀ i : SlotId, slotPolicyInRange m.slots[i] = true) ∧ partInRange m.part = true ∧ costInRange m.cost = true ∧
    classesInRange m.classes = true ∧ (∀ p : ProfileId, profileInRange m.profiles[p] = true) ∧
    trackerInRange m.tracker = true ∧ paceInRange m.pace = true ∧ spoolInRange m.spool = true ∧
    noticeMaskOk m.routeA.mask = true ∧ noticeMaskOk m.routeB.mask = true

/-- Both images are in range. -/
abbrev PolicyInRange (s : State) : Prop := imageInRange s.policy.staged ∧ imageInRange s.policy.active

/-! ### Records (R29, R37, R40, R49) -/

/-- The keys of all live records: HELD ones in slot order, then released ones. -/
def liveKeys (s : State) : List ExchangeKey :=
  (allSlots.flatMap fun i => (s.slot i).queue.map fun h => h.ex.key) ++ s.tracker.released.map fun r => r.ex.key

/-- Keys are unique among live records (R40). -/
abbrev KeysUnique (s : State) : Prop := (liveKeys s).Nodup

/-- The live records fit the pool (R37). -/
abbrev PoolBounded (s : State) : Prop := liveCount s ≤ 1024

/-- Slot 0 is never VACANT and never DRAINING (R19). -/
abbrev CommonsOpen (s : State) : Prop := (s.slot 0).state ≠ .vacant ∧ (s.slot 0).state ≠ .draining

/-- Every record in a slot's hold queue is of that slot and its current generation (R29, R49). -/
abbrev HeldInPlace (s : State) : Prop := ∀ i : SlotId, ∀ h ∈ (s.slot i).queue, h.ex.slot = i ∧ h.ex.gen = (s.slot i).gen

/-- Every RELEASED or ABORTING record is of its slot's current generation (R29). -/
abbrev OpenCurrent (s : State) : Prop :=
  ∀ r ∈ s.tracker.released, r.state ≠ .stale → r.ex.gen = (s.slot r.ex.slot).gen

/-- A slot's RELEASED and ABORTING records. -/
def openOfSlot (s : State) (i : SlotId) : Nat :=
  s.tracker.released.countP fun r => decide (r.ex.slot = i) && decide (r.state ≠ .stale)

/-- A slot's outstanding count equals the number of its RELEASED and ABORTING records, and is 0 where the slot is VACANT (R25,
R29). -/
abbrev OutstandingExact (s : State) : Prop :=
  ∀ i : SlotId, (s.slot i).outstanding = openOfSlot s i ∧ ((s.slot i).state = .vacant → (s.slot i).outstanding = 0)

/-- A VACANT or DRAINING slot's hold queue is empty (R49). -/
abbrev QueuesClosed (s : State) : Prop :=
  ∀ i : SlotId, (s.slot i).state = .vacant ∨ (s.slot i).state = .draining → (s.slot i).queue = []

/-- What holds of the records together: each part rests on the others. -/
abbrev RecordsSound (s : State) : Prop :=
  KeysUnique s ∧ CommonsOpen s ∧ HeldInPlace s ∧ OpenCurrent s ∧ OutstandingExact s ∧ QueuesClosed s

/-! ### Slots -/

/-- For every slot the admitted counter equals released plus withdrawn plus aborted-held plus depth, modulo 2^32 (R32). -/
abbrev AdmissionsAccounted (s : State) : Prop :=
  ∀ i : SlotId, (s.slot i).counters.admitted =
    (s.slot i).counters.released + (s.slot i).counters.withdrawn + (s.slot i).counters.abortedHeld +
      BitVec.ofNat 32 (s.slot i).depth

/-- A slot's balance is never above its active cap and never below -32768 (R72). -/
abbrev BalancesBounded (s : State) : Prop :=
  ∀ i : SlotId, -32768 ≤ (s.slot i).balance ∧ (s.slot i).balance ≤ ((s.slotPolicy i).cap : Int)

/-- The commons holds no address; another slot holds one exactly when it is not VACANT; no two slots hold the same one (R19,
R20). -/
abbrev DirectorySound (s : State) : Prop :=
  CommonsOpen s ∧ (s.slot 0).address = none ∧
    (∀ i : SlotId, i ≠ 0 → ((s.slot i).address = none ↔ (s.slot i).state = .vacant)) ∧
    ∀ i j : SlotId, (s.slot i).address ≠ none → (s.slot i).address = (s.slot j).address → i = j

/-! ### Rate Monitor (R105, R110, R152) -/

/-- A LOCKED tracker's selected profile is valid in the active table; a FORCED tracker's forced profile is, and in the
staged table too while a commit is pending. The lock counts are at least 1. -/
abbrev NamedProfileValid (s : State) : Prop :=
  (s.monitor.state = .locked → ∃ p, s.monitor.selected = some p ∧ (activeProfile s p).valid = true) ∧
    (s.monitor.state = .forced →
      ∃ p, s.monitor.forced = some p ∧ (activeProfile s p).valid = true ∧
        (s.policy.commitPending = true → (stagedProfile s p).valid = true)) ∧
    1 ≤ s.policy.active.tracker.lockCount ∧ 1 ≤ s.policy.staged.tracker.lockCount

/-! ### Usage Spool (R133) -/

/-- Occupancy never exceeds the capacity, nor the capacity 2048. -/
abbrev SpoolBounded (s : State) : Prop :=
  s.spool.entries.length ≤ capacityOf s.spoolSettings ∧ within 1 2048 s.policy.active.spool.watermark = true ∧
    within 1 2048 s.policy.staged.spool.watermark = true

end Sys2Proof.Machine
end

