-- ==== Sys2Proof/Certificates/Slice0/Obligations.lean ====
section
/-! DEFINITION. The statements for the provers, and the words they are written in. -/

namespace Sys2Proof.Machine

/-! ### Words of the statements -/

/-- The response `r` to `req` built in state `s` and placed: into the origin queue where a place is free, the request then
leaving the buffer; kept waiting otherwise (R18, R162). -/
def respond (req : Frame) (x : Status) (detail : Nat) (fields : List Byte) (s : State) : State :=
  if s.originQueue.length < 64 then
    { s with
      originQueue := s.originQueue ++ [buildMrsp s.transportType s.agent.address req x.code detail fields]
      agent := { s.agent with buffer := s.agent.buffer.tail, waiting := none } }
  else
    { s with
      agent :=
        { s.agent with
          waiting :=
            some
              { frame := buildMrsp s.transportType s.agent.address req x.code detail fields, completion := .plain } } }

/-- The Agent is about to take `req`, of the kind with this code: reset has ended, no response waits, no reset is being
carried out, and `req` is the oldest request (R162, R169). -/
abbrev Oldest (s : State) (req : Frame) (code : Nat) : Prop :=
  s.inReset = false ∧ s.agent.waiting = none ∧ s.agent.resetDue = none ∧ s.agent.buffer.head? = some req ∧
    requestKind req = code

/-- The same, and `req` passes the CRC check and the length check for `size` bytes of request fields (R163). -/
abbrev Sound (s : State) (req : Frame) (code size : Nat) : Prop :=
  Oldest s req code ∧ requestCorrupt req = false ∧ bodyLength req = size + 2

/-- The number in `n` bytes of a request body from offset `i`. -/
def field (req : Frame) (i n : Nat) : Nat := beNat (body req) i n

/-- A frame arrives on a port after reset has ended, and the Sorter sorts it as `d` (R5 to R10). -/
abbrev Arrives (s : State) (p : Port) (f : Frame) (d : Disposition) : Prop := s.inReset = false ∧ classify p f s = d

/-- The state once the port has counted the received frame (R3). -/
def counted (p : Port) (s : State) : State :=
  match p with
  | .f => { s with portF := { s.portF with received := s.portF.received + 1 } }
  | .t => { s with portT := { s.portT with received := s.portT.received + 1 } }

/-- The frame placed in the forwarded queue of Port F, or discarded and counted where it is full (R12). -/
def queuedF (f : Frame) (s : State) : State :=
  if s.portF.forwarded.length < 128 then { s with portF := { s.portF with forwarded := s.portF.forwarded ++ [f] } }
  else { s with portF := { s.portF with forwardOverflow := s.portF.forwardOverflow + 1 } }

/-- The frame placed in the forwarded queue of Port T, or discarded and counted where it is full (R12). -/
def queuedT (f : Frame) (s : State) : State :=
  if s.portT.forwarded.length < 128 then { s with portT := { s.portT with forwarded := s.portT.forwarded ++ [f] } }
  else { s with portT := { s.portT with forwardOverflow := s.portT.forwardOverflow + 1 } }

/-- The frame forwarded from its arrival port to the opposite one. -/
def passed (p : Port) (f : Frame) (s : State) : State :=
  match p with
  | .f => queuedT f s
  | .t => queuedF f s

/-- The released list with the record of a key changed. -/
def changed (k : ExchangeKey) (g : OpenRecord → OpenRecord) (s : State) : State :=
  { s with tracker := { s.tracker with released := s.tracker.released.map fun r => if r.ex.key = k then g r else r } }

/-- The released list with the record of a key taken out. -/
def freed (k : ExchangeKey) (s : State) : State :=
  { s with tracker := { s.tracker with released := s.tracker.released.eraseP fun r => decide (r.ex.key = k) } }

/-- The requests whose fields have a fixed size: command, request kind code, size (spec/01, "Request kinds"). -/
def sizedRequests : List (Instr × Nat × Nat) :=
  [(.queryPart, 0x01, 0), (.stageSlot, 0x10, 16), (.stagePart, 0x11, 17), (.stageCost, 0x12, 12), (.stageClass, 0x13, 4),
    (.stageProfile, 0x14, 12), (.stageTracker, 0x15, 8), (.stagePace, 0x16, 18), (.stageSpool, 0x17, 14),
    (.stageNotice, 0x18, 7), (.commit, 0x20, 0), (.discard, 0x21, 0), (.readStageDigest, 0x22, 0), (.bind, 0x30, 4),
    (.unbind, 0x31, 1), (.suspend, 0x32, 1), (.resume, 0x33, 1), (.clearQuarantine, 0x34, 1), (.readSlot, 0x40, 1),
    (.readCounters, 0x41, 0), (.readMonitor, 0x42, 0), (.forceProfile, 0x50, 1), (.releaseForce, 0x51, 0),
    (.calibrate, 0x52, 3), (.spoolRead, 0x60, 1), (.spoolTrigger, 0x61, 0), (.spoolClear, 0x62, 0), (.clearNotices, 0x70, 2),
    (.rename, 0x72, 3), (.resetPartFull, 0x7F, 1)]

/-! ### Words: the fields of the STAGE requests (R150; offsets of spec/01, "Request kinds") -/

/-- The field of `n` bytes at offset `i`, and whether it lies in lo..hi. -/
def lies (b : List Byte) (i n lo hi : Nat) : Nat × Bool := (i, decide (lo ≤ beNat b i n ∧ beNat b i n ≤ hi))

/-- The same of the value behind the presence flag at `i`, judged where the flag is 1. That it is reported at its own offset is the
model's reading (log entry 16). -/
def liesWherePresent (b : List Byte) (i n lo hi : Nat) : Nat × Bool :=
  (i + 1, decide (beNat b i 1 = 1 → lo ≤ beNat b (i + 1) n ∧ beNat b (i + 1) n ≤ hi))

/-- The byte at offset `i`, and whether it lies in 0..hi or is 0xFF. -/
def liesOrOff (b : List Byte) (i hi : Nat) : Nat × Bool := (i, decide (beNat b i 1 ≤ hi ∨ beNat b i 1 = 0xFF))

/-- The offset of the first field that is out of range. -/
def firstOut (fields : List (Nat × Bool)) : Option Nat := (fields.find? fun x => !x.2).map Prod.fst

/-- A value that a given number stands for the absence of. -/
def valueUnless (absence v : Nat) : Option Nat := if v = absence then none else some v

/-- A slot index, none above 127. -/
def slotNumbered (v : Nat) : Option SlotId := if h : v < 128 then some ⟨v, h⟩ else none

/-- A class, by its code. -/
def classNumbered (v : Nat) : SlotClass :=
  if v = 0 then .feed else if v = 1 then .live else if v = 2 then .study else .bulk

/-- A prescale, by its code. -/
def prescaleNumbered (v : Nat) : Prescale :=
  if v = 0 then .div1 else if v = 1 then .div16 else if v = 2 then .div256 else .div4096

/-- A spool mode, by its code. -/
def modeNumbered (v : Nat) : SpoolMode :=
  if v = 0 then .off else if v = 1 then .stop else if v = 2 then .ring else if v = 3 then .ringThenStop
  else if v = 4 then .offThenRing else .offThenStop

/-- STAGE SLOT's fields. -/
def slotFields (b : List Byte) : List (Nat × Bool) :=
  [lies b 1 1 0 3, lies b 2 1 1 255, lies b 3 2 0 16383, lies b 5 2 1 32767, lies b 7 1 0 1, liesWherePresent b 7 2 1 65535,
    lies b 10 2 0 32767, lies b 12 2 1 256, lies b 14 1 1 64, liesOrOff b 15 15]

/-- STAGE SLOT's policy. -/
def slotStaged (b : List Byte) : SlotPolicy :=
  { cls := classNumbered (beNat b 1 1), weight := beNat b 2 1, floor := beNat b 3 2, cap := beNat b 5 2
    ceiling := if beNat b 7 1 = 0 then none else some (beNat b 8 2)
    debtLimit := beNat b 10 2, holdLimit := beNat b 12 2, concurrency := beNat b 14 1
    batching := valueUnless 0xFF (beNat b 15 1) }

/-- STAGE PART's fields. -/
def partFields (b : List Byte) : List (Nat × Bool) :=
  [lies b 0 2 0 256, lies b 2 1 0 1, lies b 3 1 0 1, liesWherePresent b 3 3 0 16777215,
    (7, decide (0x0600 ≤ beNat b 7 2 ∧ beNat b 7 2 ≠ 0x8100)), lies b 9 1 1 255, lies b 10 2 1 65535, lies b 12 2 1 65535,
    lies b 14 2 1 65535, lies b 16 1 1 255]

/-- STAGE PART's values. -/
def partStaged (b : List Byte) : PartValues :=
  { feedReserve := beNat b 0 2
    unlisted := if beNat b 2 1 = 0 then .adopt else .refuse
    target := if beNat b 3 1 = 0 then none else some (BitVec.ofNat 24 (beNat b 4 3))
    transportType := BitVec.ofNat 16 (beNat b 7 2)
    violationThreshold := beNat b 9 1, staleLimit := beNat b 10 2, orphanLimit := beNat b 12 2, starveLimit := beNat b 14 2
    idleLimit := beNat b 16 1 }

/-- STAGE COST's fields. -/
def costFields (b : List Byte) : List (Nat × Bool) :=
  [lies b 0 1 1 64, lies b 1 1 0 255, lies b 2 1 0 1, lies b 3 1 1 64, lies b 4 1 0 255, lies b 5 1 0 1, lies b 6 1 1 64,
    lies b 7 1 0 255, lies b 8 1 0 1, lies b 9 1 1 64, lies b 10 1 0 255, lies b 11 1 0 1]

/-- STAGE COST's table. -/
def costStaged (b : List Byte) : CostTable :=
  let entry (i : Nat) : CostEntry :=
    { multiplier := beNat b i 1, overhead := beNat b (i + 1) 1, refundOnError := decide (beNat b (i + 2) 1 = 1) }
  { read := entry 0, write := entry 3, flush := entry 6, admin := entry 9 }

/-- STAGE CLASS's table, which any four bytes give. -/
def classesStaged (b : List Byte) : ClassTable :=
  { feed := valueUnless 0 (beNat b 0 1), live := valueUnless 0 (beNat b 1 1), study := valueUnless 0 (beNat b 2 1)
    bulk := valueUnless 0 (beNat b 3 1) }

/-- STAGE PROFILE's fields. -/
def profileFields (b : List Byte) : List (Nat × Bool) := [lies b 0 1 0 15, lies b 1 1 0 1, lies b 10 2 1 65535]

/-- The profile table with the entry of STAGE PROFILE written at its index. -/
def profileStaged (b : List Byte) (t : Vector Profile 16) : Vector Profile 16 :=
  Vector.ofFn fun p : Fin 16 =>
    if beNat b 0 1 = p.val then
      { valid := decide (beNat b 1 1 = 1), rateLow := beNat b 2 2, rateHigh := beNat b 4 2, latencyCeiling := beNat b 6 4
        budget := beNat b 10 2 }
    else t[p]

/-- STAGE TRACKER's fields. -/
def trackerFields (b : List Byte) : List (Nat × Bool) :=
  [lies b 0 1 1 8, lies b 1 1 1 31, lies b 2 1 1 7, lies b 3 1 1 255, lies b 4 2 1 65535, lies b 6 2 1 65535]

/-- STAGE TRACKER's parameters. -/
def trackerStaged (b : List Byte) : TrackerParams :=
  { saturation := beNat b 0 1, lockCount := beNat b 1 1, unlockCount := beNat b 2 1, silentCount := beNat b 3 1
    fallbackBudget := beNat b 4 2, probeBudget := beNat b 6 2 }

/-- STAGE PACE's fields. -/
def paceFields (b : List Byte) : List (Nat × Bool) :=
  [lies b 0 1 0 3, lies b 3 1 0 3, lies b 5 1 0 1, liesOrOff b 6 127, lies b 7 2 1 256, lies b 9 2 0 16383, lies b 11 1 1 255,
    liesOrOff b 12 127, lies b 13 2 1 256, lies b 15 2 0 16383, lies b 17 1 1 255]

/-- STAGE PACE's settings. -/
def paceStaged (b : List Byte) : PaceSettings :=
  let meter (i : Nat) : MeterSettings :=
    { binding := slotNumbered (beNat b i 1), threshold := beNat b (i + 1) 2, liftAmount := beNat b (i + 3) 2
      liftEpochs := beNat b (i + 5) 1 }
  { epochPrescale := prescaleNumbered (beNat b 0 1), epochReload := beNat b 1 2
    scanPrescale := prescaleNumbered (beNat b 3 1), scanReload := beNat b 4 1, scanEnable := decide (beNat b 5 1 = 1)
    meterA := meter 6, meterB := meter 12 }

/-- STAGE SPOOL's fields; of the trigger mask only bits 1 to 11 may be set. -/
def spoolFields (b : List Byte) : List (Nat × Bool) :=
  [lies b 0 1 0 5, liesOrOff b 1 15, (2, decide (beNat b 2 1 ∈ [0, 1, 8, 32])), (3, decide (beNat b 3 1 ∈ [0, 8, 16, 32])),
    (4, decide (beNat b 4 2 % 2 = 0 ∧ beNat b 4 2 < 4096)), lies b 6 2 0 2048, lies b 8 2 1 2048, lies b 10 1 0 1,
    liesOrOff b 11 127, lies b 12 2 1 2047]

/-- STAGE SPOOL's settings. -/
def spoolStaged (b : List Byte) : SpoolSettings :=
  { mode := modeNumbered (beNat b 0 1), summaryBatching := valueUnless 0xFF (beNat b 1 1), markSpacing := valueUnless 0 (beNat b 2 1)
    compression := valueUnless 0 (beNat b 3 1), triggerMask := BitVec.ofNat 16 (beNat b 4 2), postReserve := beNat b 6 2
    watermark := beNat b 8 2, stopOnWatermark := decide (beNat b 10 1 = 1), batchSlot := slotNumbered (beNat b 11 1)
    batchThreshold := beNat b 12 2 }

/-- STAGE NOTICE's fields; of the mask only bits 0 to 11 may be set. -/
def noticeFields (b : List Byte) : List (Nat × Bool) :=
  [lies b 0 1 0 1, lies b 1 1 0 1, liesWherePresent b 1 3 0 16777215, (5, decide (beNat b 5 2 < 4096))]

/-- STAGE NOTICE's route. -/
def routeStaged (b : List Byte) : NoticeRoute :=
  { address := if beNat b 1 1 = 0 then none else some (BitVec.ofNat 24 (beNat b 2 3)), mask := BitVec.ofNat 16 (beNat b 5 2) }

/-- The STAGE requests that name no slot: command, kind code, size, fields, write. -/
def stageGroups : List (Instr × Nat × Nat × (List Byte → List (Nat × Bool)) × (List Byte → Image → Image)) :=
  [(.stagePart, 0x11, 17, partFields, fun b m => { m with part := partStaged b }),
    (.stageCost, 0x12, 12, costFields, fun b m => { m with cost := costStaged b }),
    (.stageClass, 0x13, 4, fun _ => [], fun b m => { m with classes := classesStaged b }),
    (.stageProfile, 0x14, 12, profileFields, fun b m => { m with profiles := profileStaged b m.profiles }),
    (.stageTracker, 0x15, 8, trackerFields, fun b m => { m with tracker := trackerStaged b }),
    (.stagePace, 0x16, 18, paceFields, fun b m => { m with pace := paceStaged b }),
    (.stageSpool, 0x17, 14, spoolFields, fun b m => { m with spool := spoolStaged b }),
    (.stageNotice, 0x18, 7, noticeFields,
      fun b m => if beNat b 0 1 = 0 then { m with routeA := routeStaged b } else { m with routeB := routeStaged b })]

/-! ### Words: the fields of the responses (spec/01, "Request kinds" and "Codes used in fields"; R151) -/

/-- One byte. -/
def one (v : Nat) : List Byte := [BitVec.ofNat 8 v]

/-- One byte of a flag: 1 set, 0 clear. -/
def oneIf (f : Bool) : List Byte := one (if f = true then 1 else 0)

/-- An index byte, 0xFF for none. -/
def oneIndex {n : Nat} (i : Option (Fin n)) : List Byte :=
  match i with
  | none => one 0xFF
  | some i => one i.val

/-- A class's code. -/
def classNumber : SlotClass → Nat
  | .feed => 0
  | .live => 1
  | .study => 2
  | .bulk => 3

/-- A prescale's code. -/
def prescaleNumber : Prescale → Nat
  | .div1 => 0
  | .div16 => 1
  | .div256 => 2
  | .div4096 => 3

/-- A spool mode's code. -/
def modeNumber : SpoolMode → Nat
  | .off => 0
  | .stop => 1
  | .ring => 2
  | .ringThenStop => 3
  | .offThenRing => 4
  | .offThenStop => 5

/-- A slot policy, as the fields of STAGE SLOT from class on: 15 bytes. -/
def policyReport (p : SlotPolicy) : List Byte :=
  one (classNumber p.cls) ++ one p.weight ++ beBytes 2 p.floor ++ beBytes 2 p.cap ++
    (match p.ceiling with
      | none => [0#8, 0#8, 0#8]
      | some e => one 1 ++ beBytes 2 e) ++
    beBytes 2 p.debtLimit ++ beBytes 2 p.holdLimit ++ one p.concurrency ++ one (p.batching.getD 0xFF)

/-- A slot's part of READ SLOT behind the two policies: state to violation count, then the eight counters. -/
def slotReport (x : Slot) : List Byte :=
  let state : Nat :=
    match x.state with
    | .vacant => 0
    | .bound => 1
    | .suspended => 2
    | .quarantined => 3
    | .draining => 4
  one state ++ beBytes 3 (x.address.getD 0#24).toNat ++ one x.gen.toNat ++
    beBytes 2 (x.balance % 65536).toNat ++ one x.outstanding ++
    beBytes 4 x.releasedEpoch ++ oneIf x.idleFlag ++ one x.idleRun ++ one x.liftRemaining ++ beBytes 2 x.queue.length ++
    one x.violations ++
    [x.counters.admitted, x.counters.released, x.counters.withdrawn, x.counters.abortedHeld, x.counters.turnedAway,
        x.counters.sectorsReleased, x.counters.sectorsCompleted, x.counters.lateCompletions].flatMap
      fun c => beBytes 4 c.toNat

/-- READ MONITOR's fields: the tracker, the last epoch, the calibration. -/
def monitorReport (m : Monitor) : List Byte :=
  let state : Nat :=
    match m.state with
    | .seeking => 0
    | .locked => 1
    | .forced => 2
    | .silent => 3
  let status : Nat :=
    match m.cal.status with
    | .none => 0
    | .running => 1
    | .complete => 2
    | .cancelled => 3
  one state ++ oneIndex m.candidate ++ one m.run ++ one m.miss ++ oneIndex m.selected ++ oneIndex m.forced ++
    beBytes 4 m.last.completed ++ beBytes 4 m.last.count ++ beBytes 4 m.last.latencySum ++ beBytes 2 m.last.holdSpan ++
    beBytes 4 m.last.pieUsed ++ beBytes 2 m.last.pie ++ oneIf m.last.saturated ++ one status ++ one m.cal.requested ++
    one m.cal.run ++ beBytes 2 m.cal.budget ++ beBytes 4 m.cal.maxCompleted ++ beBytes 4 m.cal.sumCompleted ++
    beBytes 4 m.cal.maxMeanLatency

/-- The part counters in index order (spec/01, "Part counters"). -/
def countersReport (s : State) : List Counter :=
  [s.portF.received, s.portF.transmitted, s.portF.egressDiscards, s.originDiscards, s.portF.forwardOverflow,
    s.portF.receiveErrors, s.portT.received, s.portT.transmitted, s.portT.egressDiscards, s.portT.forwardOverflow,
    s.portT.receiveErrors, s.holdConsumed, s.sorter.malformed, s.sorter.unscheduled, s.sorter.unmatched, s.sorter.misported,
    s.lostDone.turnedAwayFull, s.lostDone.turnedAwayQueue, s.lostDone.withdrawn, s.lostDone.quarantined, s.lostDone.aborted,
    s.lostDone.refusedUnlisted, s.sched.refundsDiscarded, s.tracker.doneAnomalies, s.tracker.orphaned,
    s.agent.droppedByList, s.agent.droppedByFull, s.agent.noticesLost, s.spool.dropped, s.spool.ignored]

/-- An optional address: its presence flag and three bytes. -/
def addressReport : Option FabAddr → List Byte
  | none => [0#8, 0#8, 0#8, 0#8]
  | some a => one 1 ++ beBytes 3 a.toNat

/-- A profile entry, as the fields of STAGE PROFILE behind the index. -/
def profileReport (p : Profile) : List Byte :=
  oneIf p.valid ++ beBytes 2 p.rateLow ++ beBytes 2 p.rateHigh ++ beBytes 4 p.latencyCeiling ++ beBytes 2 p.budget

/-- An image as the digest takes it (R151): slots, part values, cost table, class table, profiles, tracker parameters, pace
settings, spool settings, routes A and B, each as the fields of its STAGE request. -/
def imageReport (m : Image) : List Byte :=
  let cost (c : CostEntry) : List Byte := one c.multiplier ++ one c.overhead ++ oneIf c.refundOnError
  let meter (c : MeterSettings) : List Byte :=
    oneIndex c.binding ++ beBytes 2 c.threshold ++ beBytes 2 c.liftAmount ++ one c.liftEpochs
  let route (x : NoticeRoute) : List Byte := addressReport x.address ++ beBytes 2 x.mask.toNat
  m.slots.toList.flatMap policyReport ++
    (beBytes 2 m.part.feedReserve ++ one (if m.part.unlisted = .adopt then 0 else 1) ++ addressReport m.part.target ++
      beBytes 2 m.part.transportType.toNat ++ one m.part.violationThreshold ++ beBytes 2 m.part.staleLimit ++
      beBytes 2 m.part.orphanLimit ++ beBytes 2 m.part.starveLimit ++ one m.part.idleLimit) ++
    (cost m.cost.read ++ cost m.cost.write ++ cost m.cost.flush ++ cost m.cost.admin) ++
    (one (m.classes.feed.getD 0) ++ one (m.classes.live.getD 0) ++ one (m.classes.study.getD 0) ++
      one (m.classes.bulk.getD 0)) ++
    m.profiles.toList.flatMap profileReport ++
    (one m.tracker.saturation ++ one m.tracker.lockCount ++ one m.tracker.unlockCount ++ one m.tracker.silentCount ++
      beBytes 2 m.tracker.fallbackBudget ++ beBytes 2 m.tracker.probeBudget) ++
    (one (prescaleNumber m.pace.epochPrescale) ++ beBytes 2 m.pace.epochReload ++
      one (prescaleNumber m.pace.scanPrescale) ++ one m.pace.scanReload ++ oneIf m.pace.scanEnable ++ meter m.pace.meterA ++
      meter m.pace.meterB) ++
    (one (modeNumber m.spool.mode) ++ one (m.spool.summaryBatching.getD 0xFF) ++ one (m.spool.markSpacing.getD 0) ++
      one (m.spool.compression.getD 0) ++ beBytes 2 m.spool.triggerMask.toNat ++ beBytes 2 m.spool.postReserve ++
      beBytes 2 m.spool.watermark ++ oneIf m.spool.stopOnWatermark ++ oneIndex m.spool.batchSlot ++
      beBytes 2 m.spool.batchThreshold) ++
    route m.routeA ++ route m.routeB

/-! ### Words: slots, DONE frames, violations -/

/-- Changes every slot by a function of its index and contents. -/
def eachSlot (g : SlotId → Slot → Slot) (s : State) : State := { s with slots := Vector.ofFn fun i : Fin 128 => g i (s.slot i) }

/-- The DONE of a code in reply to a COMMAND: placed, or lost and counted under its code where the origin queue is full
(R48). -/
def doneSent (code : DoneCode) (cmd : Frame) (s : State) : State :=
  let one (c : DoneCode) : Counter := if code = c then 1 else 0
  if s.originQueue.length < 64 then { s with originQueue := s.originQueue ++ [buildDone s.transportType cmd code] }
  else
    { s with
      lostDone :=
        { turnedAwayFull := s.lostDone.turnedAwayFull + one .turnedAwayFull
          turnedAwayQueue := s.lostDone.turnedAwayQueue + one .turnedAwayQueue
          withdrawn := s.lostDone.withdrawn + one .withdrawn
          quarantined := s.lostDone.quarantined + one .quarantined
          aborted := s.lostDone.aborted + one .aborted
          refusedUnlisted := s.lostDone.refusedUnlisted + one .refusedUnlisted } }

/-- A COMMAND turned away or refused: its DONE and the TURNED AWAY condition, in either order (R48). -/
def refused (order : TurnAwayOrder) (code : DoneCode) (cmd : Frame) (s : State) : State :=
  match order with
  | .doneFirst => raiseNotice .turnedAway (doneSent code cmd s)
  | .noticeFirst => doneSent code cmd (raiseNotice .turnedAway s)

/-- The same for a COMMAND looked up to a slot, whose turned-away counter rises (R43, R45, R46). -/
def refusedFrom (order : TurnAwayOrder) (i : SlotId) (code : DoneCode) (cmd : Frame) (s : State) : State :=
  refused order code cmd
    { s with
      slots :=
        s.slots.set i.val
          { s.slot i with counters := { (s.slot i).counters with turnedAway := (s.slot i).counters.turnedAway + 1 } } }

/-- A violation report against a slot: not counted where it is VACANT; otherwise counted up to 255, and a BOUND or SUSPENDED
slot at or above the threshold becomes QUARANTINED, with its record and its notice (R27, R28). That the record comes before the
notice is the model's reading (log entry 7). -/
def violated (i : SlotId) (s : State) : State :=
  let n := min 255 ((s.slot i).violations + 1)
  if (s.slot i).state = .vacant then s
  else if ((s.slot i).state = .bound ∨ (s.slot i).state = .suspended) ∧ s.policy.active.part.violationThreshold ≤ n then
    raiseNotice .quarantine
      (offerEvent .quarantine (some i) (BitVec.ofNat 32 n)
        { s with slots := s.slots.set i.val { s.slot i with violations := n, state := .quarantined } })
  else { s with slots := s.slots.set i.val { s.slot i with violations := n } }

/-- A meter after an admission into slot `i` (R130). -/
def tallied (c : MeterSettings) (i : SlotId) (m : MeterChannel) : MeterChannel :=
  if c.binding ≠ some i ∨ m.run ≠ .running then m
  else if 1 < m.count then { m with count := m.count - 1 }
  else
    { count := c.threshold, run := .stopped
      due := m.due ++ [{ slot := i, liftAmount := c.liftAmount, liftEpochs := c.liftEpochs }] }

/-! ### Words: release decisions -/

/-- The cost table entry of an operation (R66). -/
def entryOf (t : CostTable) : Op → CostEntry
  | .read => t.read
  | .write => t.write
  | .flush => t.flush
  | .admin => t.admin

/-- What a held command would be charged (R66). -/
def costOf (s : State) (h : HeldRecord) : Nat :=
  max 1
    ((h.ex.length * (entryOf s.policy.active.cost h.ex.op).multiplier + 7) / 8 +
      (entryOf s.policy.active.cost h.ex.op).overhead)

/-- `h` is the head of slot `i` and eligible (R67, R68, R69, R78). -/
def Eligible (s : State) (i : SlotId) (h : HeldRecord) : Prop :=
  (s.slot i).queue.head? = some h ∧ (s.slot i).state = .bound ∧ s.sched.holdTicks = none ∧ s.portT.link = .up ∧
    (s.slot i).outstanding < (s.slotPolicy i).concurrency ∧
    (∀ e, (s.slotPolicy i).ceiling = some e → (s.slot i).releasedEpoch + costOf s h ≤ e) ∧
    (s.sched.pieUsed + costOf s h ≤ s.sched.pie ∨ s.sched.pieUsed = 0) ∧
    (h.promoted = true ∨ -((s.slotPolicy i).debtLimit : Int) ≤ (s.slot i).balance - costOf s h)

/-- A class's place in the order of choice (R70). -/
def classRank : SlotClass → Nat
  | .feed => 0
  | .live => 1
  | .study => 2
  | .bulk => 3

/-- The ring pointer of a slot's class. -/
def pointerOf (s : State) (i : SlotId) : SlotId :=
  match (s.slotPolicy i).cls with
  | .feed => s.sched.ringFeed
  | .live => s.sched.ringLive
  | .study => s.sched.ringStudy
  | .bulk => s.sched.ringBulk

/-- How many slots lie between the ring pointer of a slot's class and the slot, rising and wrapping from 127 to 0: 0 for the
slot after the pointer, 127 for the pointer's own (R70). -/
def ringDistance (s : State) (i : SlotId) : Nat := (i.val + 127 - (pointerOf s i).val) % 128

/-- Head `h` of slot `i` is chosen before head `g` of slot `j`: a promoted head before one that is not; then by class, then by
distance from the class's ring pointer (R70). -/
def ChosenBefore (s : State) (i : SlotId) (h : HeldRecord) (j : SlotId) (g : HeldRecord) : Prop :=
  (h.promoted = true ∧ g.promoted = false) ∨
    (h.promoted = g.promoted ∧
      (classRank (s.slotPolicy i).cls < classRank (s.slotPolicy j).cls ∨
        ((s.slotPolicy i).cls = (s.slotPolicy j).cls ∧ ringDistance s i < ringDistance s j)))

/-- The release of head `h` of slot `i` (R50, R70, R72, R140). -/
def releasedFrom (s : State) (i : SlotId) (h : HeldRecord) : State :=
  let c := costOf s h
  let x := s.slot i
  let k := (s.slotPolicy i).cls
  { s with
    slots :=
      s.slots.set i.val
        { x with
          queue := x.queue.tail
          balance := max (-32768) (x.balance - c)
          outstanding := x.outstanding + 1
          releasedEpoch := x.releasedEpoch + c
          counters :=
            { x.counters with
              released := x.counters.released + 1
              sectorsReleased := x.counters.sectorsReleased + BitVec.ofNat 32 h.ex.length }
          spool := { x.spool with periodReleased := min 4294967295 (x.spool.periodReleased + h.ex.length) } }
    tracker :=
      { s.tracker with
        released :=
          s.tracker.released ++
            [{ ex := h.ex, state := .released, cost := c, releaseEpoch := s.pace.epoch, releaseStamp := s.pace.time
               ready := none }] }
    sched :=
      { s.sched with
        pieUsed := s.sched.pieUsed + c
        ringFeed := if k = .feed then i else s.sched.ringFeed
        ringLive := if k = .live then i else s.sched.ringLive
        ringStudy := if k = .study then i else s.sched.ringStudy
        ringBulk := if k = .bulk then i else s.sched.ringBulk }
    releaseSlot := some h.frame }

/-! ### Words: closes -/

/-- The refund of a close, from the cost table in force (R74). -/
def refunded (t : CostTable) (r : OpenRecord) (code sectorsDone : Nat) : Nat :=
  if code ≠ 0 ∧ (entryOf t r.ex.op).refundOnError = true then r.cost - (entryOf t r.ex.op).overhead
  else if sectorsDone < r.ex.length then
    r.cost - ((sectorsDone * (entryOf t r.ex.op).multiplier + 7) / 8 + (entryOf t r.ex.op).overhead)
  else 0

/-- The Monitor SEEKING afresh. -/
def seekingAgain (m : Monitor) : Monitor :=
  { m with state := .seeking, candidate := none, run := 0, miss := 0, selected := none }

/-- The Monitor after a completion report of sectors done, with or without a latency; the first report in SILENT ends that
state (R101, R109). -/
def reported (sectorsDone : Nat) (latency : Option Nat) (m : Monitor) : Monitor :=
  let added :=
    { m with
      completed := min 4294967295 (m.completed + sectorsDone)
      answered := true
      count := if latency = none then m.count else min 4294967295 (m.count + 1)
      latencySum := if latency = none then m.latencySum else min 4294967295 (m.latencySum + latency.getD 0) }
  if m.state = .silent then seekingAgain added else added

/-- A slot whose outstanding count falls by one; a drain that so ends (R25, R76). -/
def outstandingLowered (x : Slot) : Slot :=
  let y := { x with outstanding := x.outstanding - 1 }
  if x.state = .draining ∧ y.outstanding = 0 then { y with state := .vacant, address := none, balance := 0 } else y

/-! ### Words: the Usage Spool -/

/-- The most entries under given settings (R133). -/
def entryLimit (c : SpoolSettings) : Nat := if c.stopOnWatermark = true then c.watermark else 2048

/-- The first state of a mode. -/
def firstStateOf : SpoolMode → SpoolState
  | .off => .off
  | .stop => .collecting
  | .ring => .collecting
  | .ringThenStop => .pre
  | .offThenRing => .pre
  | .offThenStop => .pre

/-- A trigger taken in PRE: the discard under RING THEN STOP, the state POST, the TRIGGER record offered (R138). -/
def triggerTaken (slot : Option SlotId) (code : Nat) (s : State) : State :=
  let c := s.policy.active.spool
  let room := max 1 (min c.postReserve (entryLimit c))
  let kept :=
    if c.mode = .ringThenStop then s.spool.entries.drop (s.spool.entries.length - (entryLimit c - room)) else s.spool.entries
  (offerRecord (.event .trigger slot (BitVec.ofNat 32 (code * 16777216)) s.pace.epoch s.pace.time)
    { s with spool := { s.spool with entries := kept, state := .post } }).1

/-- The due record of slot `i` formed and offered: FULL with compression off, with the full-next flag set, at a compression
count of 0 or for a change outside -2048..2047, else DELTA; periods 0 and a new baseline; BATCH at the threshold of written
records of the batch slot; the full-next flag set where the record is not written (R140, R141, R143). That a FULL record with
compression off keeps the compression count is the model's choice (log entry 33), and so is BATCH after what the take raises
(log entry 30). -/
def slotRecordOffered (s : State) (i : SlotId) : State :=
  let c := s.policy.active.spool
  let x := s.slot i
  let b := x.spool.baseline
  let v : SlotValues :=
    { balance := x.balance, depth := x.queue.length, outstanding := x.outstanding, released := x.spool.periodReleased
      completed := x.spool.periodCompleted }
  let change : List Int :=
    [v.balance - b.balance, (v.depth : Int) - b.depth, (v.outstanding : Int) - b.outstanding, (v.released : Int) - b.released,
      (v.completed : Int) - b.completed]
  let full : Bool :=
    decide (c.compression = none ∨ x.spool.fullNext = true ∨ x.spool.compression = 0 ∨ ∃ d ∈ change, d < -2048 ∨ 2047 < d)
  let formed :=
    { s with
      slots :=
        s.slots.set i.val
          { x with
            spool :=
              { x.spool with
                periodReleased := 0
                periodCompleted := 0
                baseline := v
                compression :=
                  match c.compression with
                  | none => x.spool.compression
                  | some n => if full then 1 % n else (x.spool.compression + 1) % n
                fullNext := if full then false else x.spool.fullNext } } }
  let r := offerRecord (if full then .slotFull i v else .slotDelta i change) formed
  let u := r.1
  if r.2 = true then
    if c.batchSlot = some i then
      if u.spool.batchCount + 1 = c.batchThreshold then
        raiseNotice .batch { u with spool := { u.spool with batchCount := 0 } }
      else { u with spool := { u.spool with batchCount := u.spool.batchCount + 1 } }
    else u
  else
    { u with slots := u.slots.set i.val { u.slot i with spool := { (u.slot i).spool with fullNext := true } } }

/-- One slot's part of the boundary step: only a BOUND slot with batching on counts, and a count at 2^k makes its record due
(R140). -/
def slotAtBoundary (s : State) (i : SlotId) : State :=
  let counted (n : Nat) : State :=
    { s with slots := s.slots.set i.val { s.slot i with spool := { (s.slot i).spool with batching := n } } }
  match (s.slotPolicy i).batching with
  | none => s
  | some k =>
    if (s.slot i).state ≠ .bound then s
    else if (s.slot i).spool.batching + 1 < 2 ^ k then counted ((s.slot i).spool.batching + 1)
    else slotRecordOffered (counted 0) i

/-- The spool's boundary step: the EPOCH SUMMARY where it is due, every slot in index order, the TIME MARK where it is due
(R139). That the mark count stays within 31 while marks are off is the model's reading (log entry 17). -/
def spoolAtBoundary (c : ClosingSummary) (s : State) : State :=
  let first : State × Bool :=
    match s.policy.active.spool.summaryBatching with
    | none => (s, false)
    | some k =>
      if s.spool.summaryCount + 1 < 2 ^ k then
        ({ s with spool := { s.spool with summaryCount := s.spool.summaryCount + 1 } }, false)
      else offerRecord (.epochSummary c) { s with spool := { s.spool with summaryCount := 0 } }
  let u := (List.finRange 128).foldl slotAtBoundary first.1
  let marks := u.spool.markCount + if first.2 = true then 1 else 0
  let kept := if first.2 = true then min 31 (u.spool.markCount + 1) else u.spool.markCount
  match u.policy.active.spool.markSpacing with
  | none => { u with spool := { u.spool with markCount := kept } }
  | some d =>
    if d ≤ marks then (offerRecord (.timeMark u.pace.epoch u.pace.time) { u with spool := { u.spool with markCount := 0 } }).1
    else { u with spool := { u.spool with markCount := kept } }

/-- The spool's part of an apply, the active image already the new one (R146): a changed mode empties it and starts anew, a
changed mode or compression sets every full-next flag, changed settings restart their counts, a lowered capacity discards the
oldest and may freeze POST, a watermark lowered to the occupancy raises its notice. SPOOL FROZEN before WATERMARK is the
model's choice (log entry 30). -/
def spoolAtApply (old : Image) (s : State) : State :=
  let o := old.spool
  let c := s.policy.active.spool
  let state := if c.mode = o.mode then s.spool.state else firstStateOf c.mode
  let whole := if c.mode = o.mode then s.spool.entries else []
  let kept := if entryLimit c < entryLimit o then whole.drop (whole.length - entryLimit c) else whole
  let set :=
    { eachSlot
        (fun i x =>
          { x with
            spool :=
              { x.spool with
                fullNext := if c.mode = o.mode ∧ c.compression = o.compression then x.spool.fullNext else true
                batching := if (s.slotPolicy i).batching = (old.slots[i]).batching then x.spool.batching else 0 } })
        s with
      spool :=
        { s.spool with
          entries := kept
          state := state
          summaryCount := if c.summaryBatching = o.summaryBatching then s.spool.summaryCount else 0
          markCount := if c.markSpacing = o.markSpacing then s.spool.markCount else 0
          batchCount :=
            if c.batchSlot = o.batchSlot ∧ c.batchThreshold = o.batchThreshold then s.spool.batchCount else 0 } }
  let frozen :=
    if entryLimit c < entryLimit o ∧ state = .post ∧ (c.mode = .ringThenStop ∨ c.mode = .offThenStop) ∧
        entryLimit c ≤ kept.length then
      raiseNotice .spoolFrozen { set with spool := { set.spool with state := .frozen } }
    else set
  if c.watermark < o.watermark ∧ s.spool.entries.length < o.watermark ∧ c.watermark ≤ kept.length then
    raiseNotice .watermark frozen
  else frozen

/-! ### Words: channels -/

/-- Pace ticks in one count (R120). -/
def ticksOf : Prescale → Nat
  | .div1 => 1
  | .div16 => 16
  | .div256 => 256
  | .div4096 => 4096

/-- A channel loaded at its expiry (R120, R125, R126): the phase restarts where the settings change. -/
def loadedAgain (largest : Nat) (p : Prescale) (reload : Nat) (c : Channel) : Channel :=
  { c with
    count := if reload = 0 then largest else reload
    phase := if c.prescale = p ∧ c.reload = reload then c.phase else 0
    prescale := p
    reload := reload }

/-- A channel one pace tick on (R120): a STOPPED one stands still; the phase rises until a count is complete; a count that is an
expiry, or the last of a STOPPING channel, is left to the command that the tick posts (log entry 3). -/
def ticked (c : Channel) : Channel :=
  if c.run = .stopped then c
  else if c.phase + 1 < ticksOf c.prescale then { c with phase := c.phase + 1 }
  else if c.count ≤ 1 ∨ c.run = .stopping then { c with phase := 0 }
  else { c with phase := 0, count := c.count - 1 }

/-- The next tick completes a count of the channel. -/
abbrev CountComes (c : Channel) : Prop := c.run ≠ .stopped ∧ ticksOf c.prescale ≤ c.phase + 1

/-- Something waits to be taken and lets no time pass: a meter's or CAL's expiry (log entry 10), or the close of a boundary that
stands opened (log entry 35). -/
abbrev Waits (b : PaceBank) : Prop := b.meterA.due ≠ [] ∨ b.meterB.due ≠ [] ∨ b.cal.due = true ∨ b.opened ≠ none

/-- CAL's count of the next boundary is its expiry (R127). -/
abbrev LastCountNext (c : CalChannel) : Prop := c.run ≠ .stopped ∧ c.count ≤ 1 ∧ c.armed = none

/-- A meter at a boundary and at a TRAFFIC reset: loaded and started where it is bound, STOPPED where not (R129, R132). -/
def meterLoaded (c : MeterSettings) (m : MeterChannel) : MeterChannel :=
  if c.binding = none then { m with run := .stopped } else { m with count := c.threshold, run := .running }

/-- CAL at a boundary (R122, R127): a start where armed, which counts nothing; otherwise one count, of a running or stopping
channel, its expiry left waiting (log entry 10). -/
def calAtBoundary (c : CalChannel) : CalChannel :=
  match c.armed with
  | some n => { c with armed := none, count := n, reload := n, run := .running }
  | none =>
    if c.run = .stopped then c
    else if c.count ≤ 1 then { c with count := c.reload, run := .stopped, due := true }
    else { c with count := c.count - 1, run := if c.run = .stopping then .stopped else .running }

/-- The scan channel at an apply (R126). -/
def scanAtApply (c : PaceSettings) (x : Channel) : Channel :=
  if c.scanEnable = false then if x.run = .running then { x with run := .stopping } else x
  else if x.run = .stopped then
    { count := if c.scanReload = 0 then 256 else c.scanReload, run := .running, phase := 0, prescale := c.scanPrescale
      reload := c.scanReload }
  else { x with run := .running }

/-! ### Words: the payout -/

/-- The slot is in the payout set F (R60). -/
abbrev InPayout (s : State) (i : SlotId) : Prop := (s.slot i).state = .bound ∧ (s.slot i).idleFlag = false

/-- The slot is in the contending set C (R60). -/
abbrev InContending (s : State) (i : SlotId) : Prop :=
  (s.slot i).state = .bound ∧ (0 < (s.slot i).queue.length ∨ 0 < (s.slot i).outstanding)

/-- A slot's demand (R60). -/
def demanded (s : State) (i : SlotId) : Nat :=
  (s.slotPolicy i).floor + if 0 < (s.slot i).liftRemaining then (s.slot i).liftAmount else 0

/-- S: the demands over F (R60). -/
def totalDemand (s : State) : Nat := ((List.finRange 128).map fun i => if InPayout s i then demanded s i else 0).sum

/-- W: the weights over C (R60). -/
def totalWeight (s : State) : Nat :=
  ((List.finRange 128).map fun i => if InContending s i then (s.slotPolicy i).weight else 0).sum

/-- A slot's payout (R61, R62). -/
def paidTo (s : State) (i : SlotId) : Nat :=
  if totalDemand s ≤ s.sched.pie then
    (if InPayout s i then demanded s i else 0) +
      if InContending s i then (s.slotPolicy i).weight * ((s.sched.pie - totalDemand s) / totalWeight s) else 0
  else if InPayout s i then demanded s i * s.sched.pie / totalDemand s
  else 0

/-- The refill (R60 to R63): every slot of F or C paid, clamped to its cap; where S is above P the OVERCOMMIT record and notice;
every lift above 0 lowered by one. That the record comes before the notice is the model's reading (log entry 7). -/
def refilled (s : State) : State :=
  let paid :=
    eachSlot
      (fun i x =>
        if InPayout s i ∨ InContending s i then
          { x with balance := min ((s.slotPolicy i).cap : Int) (x.balance + paidTo s i) }
        else x)
      s
  eachSlot (fun _ x => { x with liftRemaining := x.liftRemaining - 1 })
    (if s.sched.pie < totalDemand s then
      raiseNotice .overcommit (offerEvent .overcommit none (BitVec.ofNat 32 (totalDemand s)) paid)
    else paid)

/-! ### Words: the epoch boundary -/

/-- The Pace Bank's own part: the epoch number, the pair loaded with the settings active in the closing epoch, the two lengths
(R124, R125). -/
def paceTurned (s : State) : State :=
  let c := s.policy.active.pace
  { s with
    pace :=
      { s.pace with
        epoch := s.pace.epoch + 1
        epochPair := loadedAgain 65536 c.epochPrescale c.epochReload s.pace.epochPair
        closingLength := s.pace.openLength
        openLength := ticksOf c.epochPrescale * if c.epochReload = 0 then 65536 else c.epochReload } }

/-- The apply of a pending commit (R80, R117, R126, R146, R155, R156): the staged image active, the tracker SEEKING where its
policy changed and it was SEEKING or LOCKED, balances clamped to the new caps, the scan channel and the spool by their rules;
then the COMMIT APPLIED record and notice. That the pending digest keeps its value is the model's choice (log entry 36). -/
def applied (s : State) : State :=
  let old := s.policy.active
  let new := s.policy.staged
  let m := s.monitor
  raiseNotice .commitApplied
    (offerEvent .commitApplied none (s.policy.pendingDigest.setWidth 32)
      (spoolAtApply old
        { eachSlot (fun i x => { x with balance := min x.balance ((new.slots[i]).cap : Int) }) s with
          policy := { s.policy with active := new, commitPending := false }
          monitor :=
            if (old.profiles ≠ new.profiles ∨ old.tracker ≠ new.tracker) ∧ (m.state = .seeking ∨ m.state = .locked) then
              seekingAgain m
            else m
          pace := { s.pace with scan := scanAtApply new.pace s.pace.scan } }))

/-- The boundary up to the Scheduler's step: the Pace Bank, the apply, then meters and CAL under the new settings. -/
def boundaryOpened (s : State) : State :=
  let u := if s.policy.commitPending = true then applied (paceTurned s) else paceTurned s
  { u with
    pace :=
      { u.pace with
        meterA := meterLoaded u.policy.active.pace.meterA u.pace.meterA
        meterB := meterLoaded u.policy.active.pace.meterB u.pace.meterB
        cal := calAtBoundary u.pace.cal } }

/-- The three values of the closing epoch (R59): the pie, the pie used, and whether a BOUND slot holds a command. -/
def reportHanded (s : State) : ClosingReport :=
  { pie := s.sched.pie, pieUsed := s.sched.pieUsed
    backlog := decide (∃ i : SlotId, (s.slot i).state = .bound ∧ 0 < (s.slot i).queue.length) }

/-- What the close of epoch `e` judges (R102, R103): saturated by the report's backlog or by its pie used. -/
def judged (e : EpochNo) (r : ClosingReport) (s : State) : Measurement :=
  { epoch := e, completed := s.monitor.completed, count := s.monitor.count, latencySum := s.monitor.latencySum
    holdSpan := s.pace.holdSpan, pie := r.pie, pieUsed := r.pieUsed
    saturated := decide (r.backlog = true ∨ s.policy.active.tracker.saturation * r.pie ≤ r.pieUsed * 8)
    length := s.pace.closingLength
    outstanding := ((List.finRange 128).map fun i : SlotId => (s.slot i).outstanding).sum
    answered := s.monitor.answered }

/-- An epoch matches a profile (R104). -/
abbrev Matches (x : Measurement) (p : Profile) : Prop :=
  p.valid = true ∧ 0 < x.count ∧ p.rateLow ≤ x.completed ∧ x.completed ≤ p.rateHigh ∧
    x.latencySum / x.count ≤ p.latencyCeiling ∧ 2 * x.holdSpan ≤ x.length

/-- The lowest-indexed active entry that an epoch matches (R104). -/
def lowestMatch (s : State) (x : Measurement) : Option ProfileId :=
  (List.finRange 16).find? fun p => decide (Matches x s.policy.active.profiles[p])

/-- An event's value for a profile. -/
def profileNumber (p : Option ProfileId) : BitVec 32 := BitVec.ofNat 32 ((p.map fun i => i.val).getD 0)

/-- The run step of a close (R103, R106, R107): a neutral epoch moves nothing; SEEKING counts matches in a row and locks at the
lock count; LOCKED counts misses in a row and unlocks at the unlock count; the other states move nothing. -/
def runMoved (x : Measurement) (s : State) : State :=
  let m := s.monitor
  let c := s.policy.active.tracker
  if x.saturated = false then s
  else
    match m.state with
    | .seeking =>
      let fit := lowestMatch s x
      let n := if fit = none then 0 else if fit = m.candidate then m.run + 1 else 1
      if n < c.lockCount then { s with monitor := { m with candidate := fit, run := n } }
      else
        raiseNotice .profileChange
          (offerEvent .profileLock none (profileNumber fit)
            { s with monitor := { m with state := .locked, selected := fit, candidate := none, run := 0, miss := 0 } })
    | .locked =>
      if ∃ p, m.selected = some p ∧ Matches x s.policy.active.profiles[p] then { s with monitor := { m with miss := 0 } }
      else if m.miss + 1 < c.unlockCount then { s with monitor := { m with miss := m.miss + 1 } }
      else
        raiseNotice .profileChange
          (offerEvent .profileUnlock none (profileNumber m.selected) { s with monitor := seekingAgain m })
    | .forced => s
    | .silent => s

/-- The silent step of a close (R108). -/
def silenceMoved (x : Measurement) (s : State) : State :=
  let m := s.monitor
  let n := if x.answered = false ∧ 0 < x.outstanding then min 255 (m.silentRun + 1) else 0
  if (m.state = .seeking ∨ m.state = .locked) ∧ s.policy.active.tracker.silentCount ≤ n then
    raiseNotice .targetSilent
      (offerEvent .targetSilent none (BitVec.ofNat 32 x.outstanding)
        { s with monitor := { seekingAgain m with state := .silent, silentRun := 0 } })
  else { s with monitor := { m with silentRun := n } }

/-- The records of a close (R102, R114): an epoch of a RUNNING or COMPLETE calibration is added; the last-epoch record; the
accumulators 0. -/
def closeRecorded (x : Measurement) (m : Monitor) : Monitor :=
  let c := m.cal
  { m with
    cal :=
      if (c.status = .running ∨ c.status = .complete) ∧ (x.epoch - c.firstEpoch).toNat < c.requested then
        { c with
          run := c.run + 1
          sumCompleted := min 4294967295 (c.sumCompleted + x.completed)
          maxCompleted := max c.maxCompleted x.completed
          maxMeanLatency := if x.count = 0 then c.maxMeanLatency else max c.maxMeanLatency (x.latencySum / x.count) }
      else c
    last :=
      { completed := x.completed, count := x.count, latencySum := x.latencySum, holdSpan := x.holdSpan, pieUsed := x.pieUsed
        pie := x.pie, saturated := x.saturated }
    completed := 0
    count := 0
    latencySum := 0
    answered := false }

/-- The close of an epoch (R102): the hold span pair sampled, the run step, the silent step, the records. -/
def closed (x : Measurement) (s : State) : State :=
  let u := silenceMoved x (runMoved x { s with pace := { s.pace with holdSpan := 0 } })
  { u with monitor := closeRecorded x u.monitor }

/-- The closing summary (R102). -/
def summarized (x : Measurement) (m : Monitor) : ClosingSummary :=
  { epoch := x.epoch, pie := x.pie, pieUsed := x.pieUsed, completed := x.completed, holdSpan := x.holdSpan, state := m.state
    profile := if m.state = .locked then m.selected else if m.state = .forced then m.forced else m.candidate }

/-- The per-epoch values of the opened epoch (R58, R59). -/
def epochOpened (pie : Nat) (s : State) : State :=
  { eachSlot (fun _ x => { x with releasedEpoch := 0 }) s with sched := { s.sched with pie := pie, pieUsed := 0 } }

/-- A class's age limit (R64). -/
def limitOf (t : ClassTable) : SlotClass → Option Nat
  | .feed => t.feed
  | .live => t.live
  | .study => t.study
  | .bulk => t.bulk

/-- Promotion: the head of every slot whose class has an age limit that the head has reached (R64). -/
def headsPromoted (s : State) : State :=
  eachSlot
    (fun i x =>
      { x with
        queue :=
          match x.queue, limitOf s.policy.active.classes (s.slotPolicy i).cls with
          | h :: rest, some n =>
            (if n ≤ (s.pace.epoch - h.ex.admittedEpoch).toNat then { h with promoted := true } else h) :: rest
          | q, _ => q })
    s

/-- The pie of the epoch that a boundary opens (R58, R105): the calibration budget in an epoch of a RUNNING calibration, the
offer otherwise, both as the closing epoch left them. -/
def pieOpened (s : State) : Nat :=
  let m := s.monitor
  let budget (p : Option ProfileId) : Nat :=
    match p with
    | some p => s.policy.active.profiles[p].budget
    | none => s.policy.active.tracker.fallbackBudget
  if m.cal.status = .running ∧ (s.pace.epoch + 1 - m.cal.firstEpoch).toNat < m.cal.requested then m.cal.budget
  else
    match m.state with
    | .seeking => s.policy.active.tracker.fallbackBudget
    | .locked => budget m.selected
    | .forced => budget m.forced
    | .silent => s.policy.active.tracker.probeBudget

/-- The Scheduler's, the Monitor's and the spool's steps of a boundary that closes epoch `closing` and opens one with this pie
(R58 to R65, R102, R139), its decision as ReleaseDecision states it; `turn` places the spool's step. The order of the blocks'
steps is the model's choice (log entry 8). -/
def boundaryClosed (turn : SpoolTurn) (closing : EpochNo) (pie : Nat) (u : State) : State :=
  let x := judged closing (reportHanded u) u
  let v := closed x u
  let step (here : SpoolTurn) (w : State) : State := if turn = here then spoolAtBoundary (summarized x v.monitor) w else w
  step .afterDecision
    (decideRelease (step .afterPay (headsPromoted (refilled (epochOpened pie (step .beforePay v))))))

/-- The rest of a boundary that stands opened: the Monitor's close with the closing report that stands, and the spool's step
(R102, R139, log entry 35). -/
def openedClosed (r : ClosingReport) (s : State) : State :=
  let x := judged (s.pace.epoch - 1) r s
  let v := closed x { s with pace := { s.pace with opened := none } }
  spoolAtBoundary (summarized x v.monitor) v

/-- A boundary: opened and closed in one, or closed where CAL's expiry has opened it (log entry 35). -/
def boundaryTaken (turn : SpoolTurn) (s : State) : State :=
  match s.pace.opened with
  | some r => openedClosed r s
  | none => boundaryClosed turn s.pace.epoch (pieOpened s) (boundaryOpened s)

/-! ### Words: the scan pass -/

/-- The Directory's part: idle runs, idle flags, admission marks (R34). -/
def idleMarked (s : State) : State :=
  eachSlot
    (fun _ x =>
      let quiet := x.admissionMark = false ∧ x.queue.length = 0 ∧ x.outstanding = 0
      { x with
        admissionMark := false
        idleRun := if x.state = .bound then if quiet then min 255 (x.idleRun + 1) else 0 else x.idleRun
        idleFlag :=
          x.idleFlag || decide (x.state = .bound ∧ quiet ∧ s.policy.active.part.idleLimit ≤ min 255 (x.idleRun + 1)) })
    s

/-- The starvation check of one slot: a BOUND slot's head at the starve limit, not yet noted, is noted and STARVE raised
(R79). -/
def starvationNoted (s : State) (i : SlotId) : State :=
  match (s.slot i).queue with
  | [] => s
  | h :: rest =>
    if (s.slot i).state = .bound ∧ h.starveNoted = false ∧
        s.policy.active.part.starveLimit ≤ (s.pace.epoch - h.ex.admittedEpoch).toNat then
      raiseNotice .starve
        { s with slots := s.slots.set i.val { s.slot i with queue := { h with starveNoted := true } :: rest } }
    else s

/-- The record turns STALE at this pass (R94, R95). -/
abbrev TurnsStale (s : State) (r : OpenRecord) : Prop :=
  r.state ≠ .stale ∧ s.policy.active.part.staleLimit ≤ (s.pace.epoch - r.releaseEpoch).toNat

/-- The walk's visit to one record (R95, R96): the change to STALE with its decrement and its record, then the orphaning. -/
def visited (s : State) (r : OpenRecord) : State :=
  let marked := changed r.ex.key (fun x => { x with state := .stale }) s
  let u :=
    if TurnsStale s r then
      offerEvent .stale (some r.ex.slot) (BitVec.ofNat 32 (r.ex.moved * 65536 + r.ready.getD 0))
        (if generationTest s r.ex = true then
          { marked with slots := s.slots.set r.ex.slot.val (outstandingLowered (s.slot r.ex.slot)) }
        else marked)
    else s
  if s.policy.active.part.staleLimit + s.policy.active.part.orphanLimit ≤ (s.pace.epoch - r.releaseEpoch).toNat then
    freed r.ex.key { u with tracker := { u.tracker with orphaned := u.tracker.orphaned + 1 } }
  else u

/-- A whole pass (R79, R95 to R97, R126): the walk from the head of the released list, the decision where it lowered a count,
and the other two parts at their places. The order is the model's choice (log entry 9). -/
def passTaken (idle starve : ScanPlace) (s : State) : State :=
  let c := s.policy.active.pace
  let u :=
    { s with
      pace :=
        { s.pace with
          scan :=
            { loadedAgain 256 c.scanPrescale c.scanReload s.pace.scan with
              run := if s.pace.scan.run = .stopping then .stopped else s.pace.scan.run } } }
  let parts (here : ScanPlace) (w : State) : State :=
    let marked := if idle = here then idleMarked w else w
    if starve = here then (List.finRange 128).foldl starvationNoted marked else marked
  let v := parts .beforeWalk u
  let w := parts .afterWalk (v.tracker.released.foldl visited v)
  parts .afterDecision
    (if ∃ r ∈ v.tracker.released, TurnsStale v r ∧ generationTest v r.ex = true then decideRelease w else w)

/-! ### Words: the TRAFFIC reset -/

/-- The blocks' parts of a TRAFFIC reset (R36, R55, R82, R119, R132, R148), in the order that is the model's choice (log entry
32). -/
def trafficCleared (s : State) : State :=
  let dones : List Frame :=
    (List.finRange 128).flatMap fun i : SlotId => (s.slot i).queue.map fun h => buildDone s.transportType h.frame .withdrawn
  let c := s.policy.active.pace
  let running := s.monitor.cal.status = .running
  { eachSlot
      (fun _ x =>
        { x with
          state := if x.state = .draining then .vacant else x.state
          address := if x.state = .draining then none else x.address
          queue := [], balance := 0, outstanding := 0, releasedEpoch := 0, liftRemaining := 0, liftAmount := 0
          admissionMark := false, idleFlag := false, idleRun := 0
          counters := { x.counters with withdrawn := x.counters.withdrawn + BitVec.ofNat 32 x.queue.length } })
      s with
    originQueue := s.originQueue ++ dones.take (64 - s.originQueue.length)
    lostDone :=
      { s.lostDone with
        withdrawn := s.lostDone.withdrawn + BitVec.ofNat 32 (dones.length - (64 - s.originQueue.length)) }
    tracker := { s.tracker with released := [] }
    sched := { s.sched with pieUsed := 0, holdTicks := none }
    monitor :=
      { seekingAgain s.monitor with
        forced := none, silentRun := 0, completed := 0, count := 0, latencySum := 0, answered := false
        cal := if running then { s.monitor.cal with status := .cancelled } else s.monitor.cal }
    pace :=
      { s.pace with
        holdSpan := 0
        meterA := meterLoaded c.meterA s.pace.meterA
        meterB := meterLoaded c.meterB s.pace.meterB
        cal :=
          if running then
            { s.pace.cal with armed := none, run := if s.pace.cal.run = .running then .stopping else s.pace.cal.run }
          else s.pace.cal } }

/-- Every invariant of Safety.lean. -/
def AllInvariants (s : State) : Prop :=
  QueuesBounded s ∧ PolicyInRange s ∧ RecordsSound s ∧ PoolBounded s ∧ AdmissionsAccounted s ∧ BalancesBounded s ∧
    DirectorySound s ∧ NamedProfileValid s ∧ SpoolBounded s

end Sys2Proof.Machine

open Sys2Proof Sys2Proof.Machine

/-! ### Steps and the queue -/

/-- A step runs the command at the front of the queue on the state whose queue is the rest. -/
def Obligations.StepRunsFrontCommand : Prop :=
  ∀ (c : Instr) (rest : List Instr) (s : State), s.pending = c :: rest →
    Sys2Proof.Machine.step s = Sys2Proof.Machine.exec c { s with pending := rest }

/-- The MODEL's choice (log entries 3, 12 and 35): on an empty queue nothing happens while reset lasts; otherwise the expiries
that wait, and the close of a boundary that stands opened, are posted; otherwise one pace tick goes by, which counts the pace
time, the hold span while a hold is in force, the epoch pair, the scan channel and the hold countdown, and the events it brings
are posted: a boundary, with CAL's expiry beside it where the boundary is CAL's last count; a scan pass, or the stop of a
STOPPING scan channel; the countdown's end. Posted events stand in the queue in some order, a scan channel's stop first. -/
def Obligations.EmptyQueueTick : Prop :=
  ∀ s : State, s.pending = [] →
    (s.inReset = true → Sys2Proof.Machine.step s = .next s) ∧
    (s.inReset = false → Waits s.pace →
      ∃ (t : State) (turn : SpoolTurn),
        Sys2Proof.Machine.step s = .next t ∧
        t.pending.Perm
          (List.replicate s.pace.meterA.due.length (.meterExpiry .a) ++
            List.replicate s.pace.meterB.due.length (.meterExpiry .b) ++ (if s.pace.cal.due = true then [.calExpiry] else []) ++
            (if s.pace.opened ≠ none then [.epochBoundary turn] else [])) ∧
        t = { s with pending := t.pending, freeChoices := t.freeChoices }) ∧
    (s.inReset = false → ¬ Waits s.pace →
      ∃ (t : State) (turn : SpoolTurn) (idle starve : ScanPlace),
        Sys2Proof.Machine.step s = .next t ∧
        t.pending.Perm
          ((if CountComes s.pace.epochPair ∧ s.pace.epochPair.count ≤ 1 then
              .epochBoundary turn :: (if LastCountNext s.pace.cal then [.calExpiry] else [])
            else []) ++
            (if CountComes s.pace.scan ∧ s.pace.scan.count ≤ 1 then [.scanPass idle starve]
            else if CountComes s.pace.scan ∧ s.pace.scan.run = .stopping then [.scanChannelStopped]
            else []) ++
            (if s.sched.holdTicks = some 0 ∨ s.sched.holdTicks = some 1 then [.holdCountdownExpiry] else [])) ∧
        (.scanChannelStopped ∈ t.pending → t.pending.head? = some .scanChannelStopped) ∧
        t =
          { s with
            pending := t.pending
            freeChoices := t.freeChoices
            sched := { s.sched with holdTicks := s.sched.holdTicks.map fun n => if n ≤ 1 then n else n - 1 }
            pace :=
              { s.pace with
                time := s.pace.time + 1
                holdSpan :=
                  if s.sched.holdTicks ≠ none ∨ s.portT.link = .down then min 65535 (s.pace.holdSpan + 1)
                  else s.pace.holdSpan
                epochPair := ticked s.pace.epochPair
                scan := ticked s.pace.scan } })

/-- Every command answers a next state, and its effect leaves the queue and the model's counter of free values alone. That a
command which the state does not admit answers next too, the state unchanged, is log entry 2; that the queue and the counter are
left alone by POWER_ON and the resets too is log entry 28: both the model's choice. -/
def Obligations.EveryCommandAnswersNext : Prop :=
  ∀ (c : Instr) (s : State), ∃ t, Sys2Proof.Machine.exec c s = .next t ∧ t.pending = s.pending ∧ t.freeChoices = s.freeChoices

/-! ### Pins -/

/-- POWER_ON and RST_N leave every block as its chapter's reset rule states: ports, Sorter and counters (R2, R11 to R16), slots
(R35), Store (R57), Scheduler (R81), Tracker (R100), Monitor with its last-epoch record and its calibration record (R118), Pace
Bank with CAL, both meters and the hold span (R131), Usage Spool with its counts, periods and baselines (R147), both images
(R149), Agent (R158 to R169). That reset lasts until RESET_END is log entry 14. -/
def Obligations.PowerOnAndRstN : Prop :=
  ∀ s : State, ∃ t, Sys2Proof.Machine.exec .powerOn s = .next t ∧ Sys2Proof.Machine.exec .rstN s = .next t ∧
    t.inReset = true ∧
    (∀ i : SlotId,
      (t.slot i).state = (if i = 0 then .bound else .vacant) ∧ (t.slot i).address = none ∧ (t.slot i).gen = 0 ∧
        (t.slot i).balance = 0 ∧ (t.slot i).outstanding = 0 ∧ (t.slot i).releasedEpoch = 0 ∧ (t.slot i).liftRemaining = 0 ∧
        (t.slot i).liftAmount = 0 ∧ (t.slot i).queue = [] ∧ (t.slot i).idleRun = 0 ∧ (t.slot i).violations = 0 ∧
        (t.slot i).admissionMark = false ∧ (t.slot i).idleFlag = false ∧ (t.slot i).counters = zeroSlotCounters ∧
        (t.slot i).spool.batching = 0 ∧ (t.slot i).spool.periodReleased = 0 ∧ (t.slot i).spool.periodCompleted = 0 ∧
        (t.slot i).spool.baseline = { balance := 0, depth := 0, outstanding := 0, released := 0, completed := 0 } ∧
        (t.slot i).spool.fullNext = true) ∧
    t.policy.staged = defaultImage ∧ t.policy.active = defaultImage ∧ t.policy.commitPending = false ∧
    t.originQueue = [] ∧ t.releaseSlot = none ∧ t.portF.forwarded = [] ∧ t.portT.forwarded = [] ∧
    t.portF.turn = .forwarded ∧ t.portT.turn = .forwarded ∧
    partCounters t = List.replicate 30 0 ∧
    t.tracker = { released := [], doneAnomalies := 0, orphaned := 0 } ∧
    t.sched =
      { pie := 65535, pieUsed := 0, ringFeed := 127, ringLive := 127, ringStudy := 127, ringBulk := 127, holdTicks := none
        refundsDiscarded := 0 } ∧
    t.monitor =
      { completed := 0, count := 0, latencySum := 0, answered := false
        last := { completed := 0, count := 0, latencySum := 0, holdSpan := 0, pieUsed := 0, pie := 0, saturated := false }
        state := .seeking, candidate := none, run := 0, miss := 0, selected := none, forced := none, silentRun := 0
        cal :=
          { status := .none, requested := 0, firstEpoch := 0, run := 0, budget := 0, maxCompleted := 0, sumCompleted := 0
            maxMeanLatency := 0 } } ∧
    t.pace.time = 0 ∧ t.pace.epoch = 0 ∧ t.pace.cal.run = .stopped ∧ t.pace.cal.armed = none ∧ t.pace.cal.due = false ∧
    t.pace.opened = none ∧ t.pace.holdSpan = 0 ∧ t.pace.meterA.run = .stopped ∧ t.pace.meterA.due = [] ∧
    t.pace.meterB.run = .stopped ∧ t.pace.meterB.due = [] ∧
    t.spool =
      { entries := [], state := .off, summaryCount := 0, markCount := 0, batchCount := 0, dropped := 0, ignored := 0 } ∧
    t.agent.managers = [] ∧ t.agent.buffer = [] ∧ t.agent.waiting = none ∧ t.agent.resetDue = none ∧ t.agent.flags = 0#12

/-- RESET_END samples the link inputs and the straps, and the Pace Bank begins: times 0, the epoch pair started with 200 at a
prescale of 1 and the scan channel with 25 at 4096, the first epoch 200 ticks long, CAL and both meters STOPPED with no expiry
waiting, the hold span 0; every other field stays. The closing epoch's length, CAL's count and reload and the meters' counts are
the model's choice (log entry 24). -/
def Obligations.ResetEndStartsThePart : Prop :=
  ∀ (straps : BitVec 4) (linkF linkT : Bool) (s : State), s.inReset = true →
    ∃ t, Sys2Proof.Machine.exec (.resetEnd straps linkF linkT) s = .next t ∧ t.inReset = false ∧
      t.portF = { s.portF with link := if linkF then .up else .down } ∧
      t.portT = { s.portT with link := if linkT then .up else .down } ∧
      t.agent = { s.agent with address := 0xFDF000#24 + straps.setWidth 24 } ∧
      t.pace =
        { time := 0, epoch := 0
          epochPair := { count := 200, run := .running, phase := 0, prescale := .div1, reload := 200 }
          openLength := 200, closingLength := 200, opened := none
          scan := { count := 25, run := .running, phase := 0, prescale := .div4096, reload := 25 }
          cal := { count := 0, run := .stopped, reload := 0, armed := none, due := false }
          holdSpan := 0
          meterA := { count := 256, run := .stopped, due := [] }
          meterB := { count := 256, run := .stopped, due := [] } } ∧
      t = { s with inReset := t.inReset, portF := t.portF, portT := t.portT, agent := t.agent, pace := t.pace }

/-- Link events: a repeat changes nothing; link up sets the state, on Port T with a release decision; link down sets the state
and loses a frame under transmission. That the loss of a frame of the origin queue is an origin discard too is the model's
reading (log entry 25). -/
def Obligations.LinkEvents : Prop :=
  ∀ s : State, s.inReset = false →
    (∀ p, (s.port p).link = .up → Sys2Proof.Machine.exec (.linkUp p) s = .next s) ∧
    (∀ p, (s.port p).link = .down → Sys2Proof.Machine.exec (.linkDown p) s = .next s) ∧
    (s.portF.link = .down →
      Sys2Proof.Machine.exec (.linkUp .f) s = .next { s with portF := { s.portF with link := .up } }) ∧
    (s.portT.link = .down →
      Sys2Proof.Machine.exec (.linkUp .t) s = .next (decideRelease { s with portT := { s.portT with link := .up } })) ∧
    (s.portF.link = .up → s.portF.sending = none →
      Sys2Proof.Machine.exec (.linkDown .f) s = .next { s with portF := { s.portF with link := .down } }) ∧
    (s.portT.link = .up → s.portT.sending = none →
      Sys2Proof.Machine.exec (.linkDown .t) s = .next { s with portT := { s.portT with link := .down } }) ∧
    (∀ f src, s.portT.link = .up → s.portT.sending = some (f, src) →
      Sys2Proof.Machine.exec (.linkDown .t) s =
        .next
          { s with
            portT :=
              { s.portT with link := .down, sending := none, egressDiscards := s.portT.egressDiscards + 1 } }) ∧
    (∀ f, s.portF.link = .up → s.portF.sending = some (f, .forwarded) →
      Sys2Proof.Machine.exec (.linkDown .f) s =
        .next
          { s with
            portF :=
              { s.portF with link := .down, sending := none, egressDiscards := s.portF.egressDiscards + 1 } }) ∧
    ∀ f, s.portF.link = .up → s.portF.sending = some (f, .own) →
      Sys2Proof.Machine.exec (.linkDown .f) s =
        .next
          { s with
            originDiscards := s.originDiscards + 1
            portF :=
              { s.portF with link := .down, sending := none, egressDiscards := s.portF.egressDiscards + 1 } }

/-! ### Egress -/

/-- A free transmitter takes the one source that holds a frame, or the one the turn names; the turn is set after every take;
the frame is sent at an UP link and discarded at a DOWN one; emptying the release slot takes a decision. -/
def Obligations.EgressTakes : Prop :=
  ∀ (s : State) (x : Frame), s.inReset = false →
    (∀ rest, s.portT.sending = none → s.portT.forwarded = x :: rest → (s.releaseSlot = none ∨ s.portT.turn = .forwarded) →
      Sys2Proof.Machine.exec (.egressTake .t) s =
        .next
          { s with
            portT :=
              if s.portT.link = .up then
                { s.portT with forwarded := rest, turn := .own, sending := some (x, .forwarded) }
              else
                { s.portT with forwarded := rest, turn := .own, egressDiscards := s.portT.egressDiscards + 1 } }) ∧
    (s.portT.sending = none → s.releaseSlot = some x → (s.portT.forwarded = [] ∨ s.portT.turn = .own) →
      Sys2Proof.Machine.exec (.egressTake .t) s =
        .next
          (decideRelease
            { s with
              releaseSlot := none
              portT :=
                if s.portT.link = .up then { s.portT with turn := .forwarded, sending := some (x, .own) }
                else { s.portT with turn := .forwarded, egressDiscards := s.portT.egressDiscards + 1 } })) ∧
    (∀ rest, s.portF.sending = none → s.portF.forwarded = x :: rest → (s.originQueue = [] ∨ s.portF.turn = .forwarded) →
      Sys2Proof.Machine.exec (.egressTake .f) s =
        .next
          { s with
            portF :=
              if s.portF.link = .up then
                { s.portF with forwarded := rest, turn := .own, sending := some (x, .forwarded) }
              else
                { s.portF with forwarded := rest, turn := .own, egressDiscards := s.portF.egressDiscards + 1 } }) ∧
    ∀ rest, s.portF.sending = none → s.originQueue = x :: rest → (s.portF.forwarded = [] ∨ s.portF.turn = .own) →
      Sys2Proof.Machine.exec (.egressTake .f) s =
        .next
          (if s.portF.link = .up then
            { s with originQueue := rest, portF := { s.portF with turn := .forwarded, sending := some (x, .own) } }
          else
            { s with
              originQueue := rest
              originDiscards := s.originDiscards + 1
              portF := { s.portF with turn := .forwarded, egressDiscards := s.portF.egressDiscards + 1 } })

/-- The end of a transmission counts the frame and frees the transmitter, and changes nothing else. -/
def Obligations.TransmissionEnds : Prop :=
  ∀ (s : State) (x : Frame × EgressSource), s.inReset = false →
    (s.portF.sending = some x →
      Sys2Proof.Machine.exec (.transmissionEnd .f) s =
        .next { s with portF := { s.portF with sending := none, transmitted := s.portF.transmitted + 1 } }) ∧
    (s.portT.sending = some x →
      Sys2Proof.Machine.exec (.transmissionEnd .t) s =
        .next { s with portT := { s.portT with sending := none, transmitted := s.portT.transmitted + 1 } })

/-! ### Frames -/

/-- The Frame Sorter's table: the EtherType and the header check spelled out, then every row. A row that looks a key up is
stated of a state whose live keys are unique: the key of a HELD record leads to that record, the key of a released record to
that one, any other key to none. A frame too short to hold an EtherType is no transport frame, a VLAN tag is stepped over only
where its four bytes are there, and the header check counts its 46 bytes after the EtherType for a tagged frame too: the model's
reading, all three (log entry 21). -/
def Obligations.SorterTable : Prop :=
  ∀ (p : Port) (f : Frame) (s : State),
    let tagged : Prop := f.rest.take 2 = [0x81#8, 0x00#8] ∧ 4 ≤ f.rest.length
    let untagged : List Byte := if tagged then f.rest.drop 4 else f.rest
    let bytes : List Byte := untagged.drop 2
    let key : ExchangeKey := { initiator := if p = .f then srcAddr f else dstAddr f, tag := tagOf f }
    (isTransport s.transportType f = true ↔
      untagged.take 2 = beBytes 2 s.transportType.toNat ∧ ¬ (tagged ∧ s.transportType = 0x8100#16)) ∧
    (headerOk f = true ↔
      16 ≤ bytes.length ∧ byteAt bytes 1 = 1 ∧ beNat bytes 10 2 ≤ (if byteAt bytes 0 = 0x03 then 9000 else 1024) ∧
        (bytes.length = 16 + beNat bytes 10 2 ∨ (bytes.length = 46 ∧ 16 + beNat bytes 10 2 ≤ 46)) ∧
        (byteAt bytes 0 = 0x01 →
          (byteAt bytes 12 ∈ [1, 2] ∧ 1 ≤ beNat bytes 14 2 ∧ beNat bytes 14 2 ≤ 2048) ∨
            (byteAt bytes 12 ∈ [3, 4] ∧ beNat bytes 14 2 = 0))) ∧
    (isTransport s.transportType f = false → classify p f s = .pass) ∧
    (isTransport s.transportType f = true → headerOk f = false → classify p f s = .malformed) ∧
    (isTransport s.transportType f = true → headerOk f = true →
      (kindCode f = 0x01 → p = .f → (s.part.target = none ∨ s.part.target = some (dstAddr f)) →
        classify p f s = .admission) ∧
      (kindCode f = 0x01 → p = .f → s.part.target ≠ none → s.part.target ≠ some (dstAddr f) →
        classify p f s = .unscheduled) ∧
      (kindCode f = 0x01 → p = .t → classify p f s = .unscheduled) ∧
      (kindCode f = 0x02 ∨ kindCode f = 0x04 → p = .f → classify p f s = .unmatched) ∧
      (kindCode f = 0x05 → p = .t → classify p f s = .unmatched) ∧
      (KeysUnique s →
        (kindCode f = 0x03 ∨ (p = .t ∧ (kindCode f = 0x02 ∨ kindCode f = 0x04)) ∨ (p = .f ∧ kindCode f = 0x05)) →
        (∀ (i : SlotId), ∀ h ∈ (s.slot i).queue, h.ex.key = key → classify p f s = .held i h) ∧
        (∀ r ∈ s.tracker.released, r.ex.key = key → classify p f s = .released r) ∧
        (key ∉ liveKeys s → classify p f s = .unmatched)) ∧
      (kindCode f = 0x06 → p = .t → classify p f s = .hold) ∧
      (kindCode f = 0x06 → p = .f → classify p f s = .pass) ∧
      (kindCode f = 0x10 → dstAddr f = s.agent.address →
        classify p f s = match p with | .f => .request | .t => .misported) ∧
      (kindCode f = 0x10 → dstAddr f ≠ s.agent.address → classify p f s = .pass) ∧
      (kindCode f ∉ [0x01, 0x02, 0x03, 0x04, 0x05, 0x06, 0x10] → classify p f s = .pass))

/-- A frame that the part does not act on is counted as received, counted by the Sorter where its row says so, and placed in
the opposite port's forwarded queue; one that fails the frame check sequence is counted as a receive error alone: that it is not
also counted as received is the model's reading (log entry 6). -/
def Obligations.FrameReceiveForwards : Prop :=
  ∀ (p : Port) (f : Frame) (order : TurnAwayOrder) (s : State),
    (Arrives s p f .pass →
      Sys2Proof.Machine.exec (.frameReceive p true { frame := f, order := order }) s = .next (passed p f (counted p s))) ∧
    (Arrives s p f .malformed →
      Sys2Proof.Machine.exec (.frameReceive p true { frame := f, order := order }) s =
        .next (passed p f { counted p s with sorter := { s.sorter with malformed := s.sorter.malformed + 1 } })) ∧
    (Arrives s p f .unscheduled →
      Sys2Proof.Machine.exec (.frameReceive p true { frame := f, order := order }) s =
        .next (passed p f { counted p s with sorter := { s.sorter with unscheduled := s.sorter.unscheduled + 1 } })) ∧
    (Arrives s p f .unmatched →
      Sys2Proof.Machine.exec (.frameReceive p true { frame := f, order := order }) s =
        .next (passed p f { counted p s with sorter := { s.sorter with unmatched := s.sorter.unmatched + 1 } })) ∧
    (Arrives s p f .misported →
      Sys2Proof.Machine.exec (.frameReceive p true { frame := f, order := order }) s =
        .next (passed p f { counted p s with sorter := { s.sorter with misported := s.sorter.misported + 1 } })) ∧
    (s.inReset = false → p = .f →
      Sys2Proof.Machine.exec (.frameReceive p false { frame := f, order := order }) s =
        .next { s with portF := { s.portF with receiveErrors := s.portF.receiveErrors + 1 } }) ∧
    (s.inReset = false → p = .t →
      Sys2Proof.Machine.exec (.frameReceive p false { frame := f, order := order }) s =
        .next { s with portT := { s.portT with receiveErrors := s.portT.receiveErrors + 1 } })

/-- The checks of an admission in their order: refused unlisted, QUARANTINED, DRAINING, key collision, full hold queue, full
pool; the first that applies decides, and turns the COMMAND away with its code (R48: the DONE placed or lost under its code, the
turned-away counter of the slot, the TURNED AWAY condition, the two placements in either order) or drops it with a violation
report (R27). That a QUARANTINE record comes before its notice is the model's reading (log entry 7). -/
def Obligations.CommandChecksInOrder : Prop :=
  ∀ (f : Frame) (order : TurnAwayOrder) (s : State) (i : SlotId), Arrives s .f f .admission →
    let arrival : Arrival := { frame := f, order := order }
    (slotFor s (srcAddr f) = none →
      Sys2Proof.Machine.exec (.command arrival) s = .next (refused order .refusedUnlisted f (counted .f s))) ∧
    (slotFor s (srcAddr f) = some i →
      ((s.slot i).state = .quarantined →
        Sys2Proof.Machine.exec (.command arrival) s = .next (refusedFrom order i .quarantined f (counted .f s))) ∧
      ((s.slot i).state = .draining →
        Sys2Proof.Machine.exec (.command arrival) s = .next (refusedFrom order i .withdrawn f (counted .f s))) ∧
      ((s.slot i).state = .bound ∨ (s.slot i).state = .suspended →
        (keyLive s { initiator := srcAddr f, tag := tagOf f } = true →
          Sys2Proof.Machine.exec (.command arrival) s = .next (violated i (counted .f s))) ∧
        (keyLive s { initiator := srcAddr f, tag := tagOf f } = false →
          ((s.slotPolicy i).holdLimit ≤ (s.slot i).depth →
            Sys2Proof.Machine.exec (.command arrival) s = .next (refusedFrom order i .turnedAwayQueue f (counted .f s))) ∧
          ((s.slot i).depth < (s.slotPolicy i).holdLimit →
            (1024 ≤ liveCount s ∨
                (s.slotPolicy i).cls ≠ .feed ∧ 1024 ≤ liveCount s + s.part.feedReserve) →
              Sys2Proof.Machine.exec (.command arrival) s =
                .next (refusedFrom order i .turnedAwayFull f (counted .f s))))))

/-- A COMMAND that passes every check is admitted: its record joins the tail of the hold queue, the admitted counter rises, the
admission mark is set and the idle state cleared, bound meters tally, and a release decision is taken. A loaded meter's first
admissions into its slot lower its count; the threshold-th expires it: loaded again, STOPPED, its report waiting. That the
expiry waits, and so comes after the decision, is the model's choice (log entries 10 and 31). -/
def Obligations.CommandAdmitted : Prop :=
  (∀ (f : Frame) (order : TurnAwayOrder) (s : State) (i : SlotId) (op : Op), Arrives s .f f .admission →
    slotFor s (srcAddr f) = some i →
    ((s.slot i).state = .bound ∨ (s.slot i).state = .suspended) →
    keyLive s { initiator := srcAddr f, tag := tagOf f } = false → (s.slot i).depth < (s.slotPolicy i).holdLimit →
    liveCount s < 1024 → ((s.slotPolicy i).cls = .feed ∨ liveCount s + s.part.feedReserve < 1024) →
    opOfCode (word0 f) = some op →
    Sys2Proof.Machine.exec (.command { frame := f, order := order }) s =
      .next
        (decideRelease
          { counted .f s with
            slots :=
              s.slots.set i.val
                { s.slot i with
                  queue :=
                    (s.slot i).queue ++
                      [{ ex :=
                          { key := { initiator := srcAddr f, tag := tagOf f }, slot := i, gen := (s.slot i).gen, op := op
                            length := word2 f, admittedEpoch := s.pace.epoch, moved := 0 }
                         frame := f, promoted := false, starveNoted := false }]
                  counters := { (s.slot i).counters with admitted := (s.slot i).counters.admitted + 1 }
                  admissionMark := true
                  idleFlag := false
                  idleRun := 0 }
            pace :=
              { s.pace with
                meterA := tallied s.policy.active.pace.meterA i s.pace.meterA
                meterB := tallied s.policy.active.pace.meterB i s.pace.meterB } })) ∧
    ∀ (c : MeterSettings) (i : SlotId) (due : List BurstReport), c.binding = some i → 1 ≤ c.threshold →
      let loaded : MeterChannel := { count := c.threshold, run := .running, due := due }
      (∀ k < c.threshold, Nat.repeat (tallyMeter c i) k loaded = { loaded with count := c.threshold - k }) ∧
        Nat.repeat (tallyMeter c i) c.threshold loaded =
          { count := c.threshold, run := .stopped
            due := due ++ [{ slot := i, liftAmount := c.liftAmount, liftEpochs := c.liftEpochs }] }

/-- A release decision: none while the release slot is occupied; with it empty and no head eligible, nothing; with it empty and
some head eligible, exactly one head is released, the one chosen before every other eligible head: a promoted head before one that
is not, then FEED, LIVE, STUDY, BULK, then in ring order from the slot after the class's pointer. A head is eligible where its
slot is BOUND, no target hold is in force, and the slot's concurrency, its epoch ceiling, the pie gate and the balance test let it
go. The release charges balance, pie and epoch count, raises outstanding, the counters and the period, sets the class's ring
pointer, makes the record RELEASED and moves the frame to the release slot, and changes nothing else. -/
def Obligations.ReleaseDecision : Prop :=
  ∀ s : State,
    (s.releaseSlot ≠ none → decideRelease s = s) ∧
    (s.releaseSlot = none → (∀ (i : SlotId) (h : HeldRecord), ¬ Eligible s i h) → decideRelease s = s) ∧
    (s.releaseSlot = none → (∃ (i : SlotId) (h : HeldRecord), Eligible s i h) →
      ∃ (i : SlotId) (h : HeldRecord),
        Eligible s i h ∧ (∀ (j : SlotId) (g : HeldRecord), j ≠ i → Eligible s j g → ChosenBefore s i h j g) ∧
          decideRelease s = releasedFrom s i h)

/-- A READY matched to a released record records its amount where the operation is WRITE; matched to a HELD record it changes
nothing in it; in every case it is forwarded to Port F, and nothing else changes. -/
def Obligations.ReadyRecordsAmount : Prop :=
  ∀ (f : Frame) (s : State), kindCode f = 0x02 →
    (∀ r : OpenRecord, Arrives s .t f (.released r) →
      Sys2Proof.Machine.exec (.ready f) s =
        .next
          (queuedF f
            (changed r.ex.key (fun x => if x.ex.op = .write then { x with ready := some (word2 f) } else x)
              (counted .t s)))) ∧
    ∀ (i : SlotId) (h : HeldRecord), Arrives s .t f (.held i h) →
      Sys2Proof.Machine.exec (.ready f) s = .next (queuedF f (counted .t s))

/-- A DATA matched to a released record raises its sectors moved by the ceiling of the body length over 512, up to 65535; write
DATA from the initiator past the command's length is also reported as a violation (R27) where the record passes the generation
test. A DATA matched to a HELD record changes nothing in it. Every matched DATA is forwarded. That a QUARANTINE record comes
before its notice is the model's reading (log entry 7). -/
def Obligations.DataCountsSectors : Prop :=
  ∀ (p : Port) (f : Frame) (s : State), kindCode f = 0x03 →
    (∀ r : OpenRecord, Arrives s p f (.released r) →
      let moved := changed r.ex.key
        (fun x => { x with ex := { x.ex with moved := min 65535 (x.ex.moved + (bodyLength f + 511) / 512) } }) (counted p s)
      Sys2Proof.Machine.exec (.data p f) s =
        .next
          (passed p f
            (if p = .f ∧ r.ex.op = .write ∧ r.ex.length < dataOffset f + (bodyLength f + 511) / 512 ∧
                generationTest s r.ex = true then
              violated r.ex.slot moved
            else moved))) ∧
    ∀ (i : SlotId) (h : HeldRecord), Arrives s p f (.held i h) →
      Sys2Proof.Machine.exec (.data p f) s = .next (passed p f (counted p s))

/-- A DONE matched to a RELEASED or ABORTING record of its slot's current generation closes it: the refund of the cost table in
force clamped to the cap, outstanding lowered, sectors completed raised, a drain ended where outstanding reaches 0, the completion
reported with its latency, the record freed, a decision taken, and the DONE forwarded to Port F. The generation test is made
once, at the start, so the close that ends a drain counts its sectors too: the model's reading (log entry 11). -/
def Obligations.DoneClosesRecord : Prop :=
  ∀ (f : Frame) (s : State) (r : OpenRecord), Arrives s .t f (.released r) → kindCode f = 0x04 → r.state ≠ .stale →
    generationTest s r.ex = true →
    let x := s.slot r.ex.slot
    let paid : Slot :=
      { x with
        balance :=
          min ((s.slotPolicy r.ex.slot).cap : Int) (x.balance + refunded s.policy.active.cost r (word0 f) (word2 f))
        outstanding := x.outstanding - 1
        counters :=
          { x.counters with sectorsCompleted := x.counters.sectorsCompleted + BitVec.ofNat 32 (word2 f) }
        spool := { x.spool with periodCompleted := min 4294967295 (x.spool.periodCompleted + word2 f) } }
    let settled : Slot :=
      if x.state = .draining ∧ x.outstanding - 1 = 0 then { paid with state := .vacant, address := none, balance := 0 }
      else paid
    Sys2Proof.Machine.exec (.done f) s =
      .next
        (queuedF f
          (decideRelease
            (freed r.ex.key
              { counted .t s with
                slots := s.slots.set r.ex.slot.val settled
                monitor := reported (word2 f) (some (s.pace.time - r.releaseStamp).toNat) s.monitor })))

/-- A DONE matched to a STALE record of its slot's current generation is a late completion: the refund applied, with a decision
where it is above 0, no outstanding decrement, late completions raised, no latency. One matched to a record that fails the
generation test discards the refund, whatever it is, raises the refunds-discarded counter, moves no slot and takes no decision;
its sectors are reported to the Monitor all the same. One matched to a HELD record raises the DONE anomalies counter and leaves
the record. All are forwarded to Port F. -/
def Obligations.LateAndAnomalousDone : Prop :=
  ∀ (f : Frame) (s : State), kindCode f = 0x04 →
    (∀ r : OpenRecord, Arrives s .t f (.released r) → r.state = .stale → generationTest s r.ex = true →
      let x := s.slot r.ex.slot
      let n := refunded s.policy.active.cost r (word0 f) (word2 f)
      let late :=
        freed r.ex.key
          { counted .t s with
            slots :=
              s.slots.set r.ex.slot.val
                { x with
                  balance := min ((s.slotPolicy r.ex.slot).cap : Int) (x.balance + n)
                  counters :=
                    { x.counters with
                      sectorsCompleted := x.counters.sectorsCompleted + BitVec.ofNat 32 (word2 f)
                      lateCompletions := x.counters.lateCompletions + 1 }
                  spool := { x.spool with periodCompleted := min 4294967295 (x.spool.periodCompleted + word2 f) } }
            monitor := reported (word2 f) none s.monitor }
      Sys2Proof.Machine.exec (.done f) s = .next (queuedF f (if 0 < n then decideRelease late else late))) ∧
    (∀ r : OpenRecord, Arrives s .t f (.released r) → generationTest s r.ex = false →
      Sys2Proof.Machine.exec (.done f) s =
        .next
          (queuedF f
            (freed r.ex.key
              { counted .t s with
                sched := { s.sched with refundsDiscarded := s.sched.refundsDiscarded + 1 }
                monitor :=
                  reported (word2 f) (if r.state = .stale then none else some (s.pace.time - r.releaseStamp).toNat)
                    s.monitor }))) ∧
    (∀ (i : SlotId) (h : HeldRecord), Arrives s .t f (.held i h) →
      Sys2Proof.Machine.exec (.done f) s =
        .next
          (queuedF f
            { counted .t s with tracker := { s.tracker with doneAnomalies := s.tracker.doneAnomalies + 1 } }))

/-- An ABORT of a released record makes a RELEASED one ABORTING and is forwarded to Port T. An ABORT of a HELD record, the head of
its queue or one behind it, is consumed: the record leaves its queue, a DONE ABORTED is placed or lost, aborted-held rises; the
removal of a head takes a release decision, in whatever state its slot is: the model's reading (log entry 23). -/
def Obligations.AbortTakes : Prop :=
  ∀ (f : Frame) (s : State), kindCode f = 0x05 →
    (∀ r : OpenRecord, Arrives s .f f (.released r) →
      Sys2Proof.Machine.exec (.abort f) s =
        .next
          (queuedT f
            (changed r.ex.key (fun x => if x.state = .released then { x with state := .aborting } else x)
              (counted .f s)))) ∧
    (∀ (i : SlotId) (h : HeldRecord), Arrives s .f f (.held i h) →
      let removed := doneSent .aborted h.frame
        { counted .f s with
          slots :=
            s.slots.set i.val
              { s.slot i with
                queue := (s.slot i).queue.eraseP fun x => decide (x.ex.key = h.ex.key)
                counters := { (s.slot i).counters with abortedHeld := (s.slot i).counters.abortedHeld + 1 } } }
      Sys2Proof.Machine.exec (.abort f) s =
        .next (if ((s.slot i).queue.head?.map fun x => x.ex.key) = some h.ex.key then decideRelease removed else removed))

/-- A HOLD on Port T is consumed and counted; a pause above 0 starts or restarts the countdown, a pause of 0 stops it; the end
of the hold takes a release decision, and so does the countdown's expiry with Port T's link UP. The countdown expires where it
has come to its last tick; one that a HOLD has restarted since, or stopped, does not expire. The countdown is kept in ticks of
0.1 microsecond, the model's unit (log entry 26). That a commanded expiry of a countdown that is stopped or not at its end
leaves the state as it is, is the model's choice (log entry 2). -/
def Obligations.HoldAndCountdown : Prop :=
  ∀ s : State, s.inReset = false →
    (∀ f : Frame, Arrives s .t f .hold →
      let held := { counted .t s with
        holdConsumed := s.holdConsumed + 1
        sched := { s.sched with holdTicks := if word2 f = 0 then none else some (10 * word2 f) } }
      Sys2Proof.Machine.exec (.hold f) s =
        .next
          (if word2 f = 0 ∧ s.sched.holdTicks ≠ none ∧ s.portT.link = .up then decideRelease held else held)) ∧
    (s.sched.holdTicks = some 0 ∨ s.sched.holdTicks = some 1 →
      Sys2Proof.Machine.exec .holdCountdownExpiry s =
        .next
          (if s.portT.link = .up then decideRelease { s with sched := { s.sched with holdTicks := none } }
          else { s with sched := { s.sched with holdTicks := none } })) ∧
    (s.sched.holdTicks ≠ some 0 → s.sched.holdTicks ≠ some 1 → Sys2Proof.Machine.exec .holdCountdownExpiry s = .next s)

/-! ### Time -/

/-- An epoch boundary, whole: the epoch number rises by one, the pair is loaded with the settings active in the closing epoch, a
pending commit applies with every block's part (balances clamped, tracker SEEKING, scan channel, spool, record and notice), the
bound meters are loaded and started, CAL counts or starts; the closing epoch is judged (run, miss and silent run, lock, unlock
and SILENT, calibration, last-epoch record, accumulators and hold span 0); the pie is the calibration budget or the budget
offered before the apply; the refill, promotion and the release decision follow; the spool's boundary step stands where `turn`
places it. Ports, Sorter, release list counters and the two queues' commands are not touched. The order of the blocks' steps is
the model's choice (log entry 8), and so are CAL's waiting expiry (log entry 10) and a boundary that CAL's expiry has opened:
there the Pace Bank's, the Policy Stage's and the Scheduler's steps stand as taken, the Monitor closes with the closing report
that stands, and the spool takes its step, wherever `turn` places it (log entry 35). That an apply leaves the pending digest as it
was, which R149 gives no meaning then, is the model's choice too (log entry 36). That each event record comes before its notice
is the model's reading (log entry 7). -/
def Obligations.EpochBoundaryOpens : Prop :=
  ∀ (turn : SpoolTurn) (s : State), s.inReset = false →
    ∃ t, Sys2Proof.Machine.exec (.epochBoundary turn) s = .next t ∧ t = boundaryTaken turn s ∧
      t.monitor.completed = 0 ∧ t.monitor.count = 0 ∧ t.monitor.latencySum = 0 ∧ t.monitor.answered = false ∧
      t.monitor.last.completed = s.monitor.completed ∧ t.monitor.last.count = s.monitor.count ∧
      t.monitor.last.latencySum = s.monitor.latencySum ∧ t.monitor.last.holdSpan = s.pace.holdSpan ∧
      t.pace.holdSpan = 0 ∧ t.pace.opened = none ∧ t.pace.time = s.pace.time ∧
      t.sched.holdTicks = s.sched.holdTicks ∧ t.tracker.doneAnomalies = s.tracker.doneAnomalies ∧
      t.tracker.orphaned = s.tracker.orphaned ∧ t.portF = s.portF ∧ t.portT = s.portT ∧ t.sorter = s.sorter ∧
      t.lostDone = s.lostDone ∧ t.originDiscards = s.originDiscards ∧ t.holdConsumed = s.holdConsumed ∧
      (∀ i, (t.slot i).state = (s.slot i).state ∧ (t.slot i).address = (s.slot i).address ∧
        (t.slot i).gen = (s.slot i).gen ∧ (t.slot i).violations = (s.slot i).violations ∧
        (t.slot i).idleFlag = (s.slot i).idleFlag ∧ (t.slot i).counters.admitted = (s.slot i).counters.admitted) ∧
      (∀ r, s.pace.opened = some r →
        t.monitor.last.pieUsed = r.pieUsed ∧ t.monitor.last.pie = r.pie ∧
        t.pace = { s.pace with opened := none, holdSpan := 0 } ∧ t.policy = s.policy ∧ t.sched = s.sched ∧
        t.tracker = s.tracker ∧ t.releaseSlot = s.releaseSlot) ∧
      (s.pace.opened = none →
        t.monitor.last.pieUsed = s.sched.pieUsed ∧ t.monitor.last.pie = s.sched.pie ∧
        t.pace.epoch = s.pace.epoch + 1 ∧
        t.policy =
          { s.policy with
            active := if s.policy.commitPending then s.policy.staged else s.policy.active, commitPending := false } ∧
        t.sched.pie =
          (if s.monitor.cal.status = .running ∧
              (s.pace.epoch + 1 - s.monitor.cal.firstEpoch).toNat < s.monitor.cal.requested then s.monitor.cal.budget
          else offer s) ∧
        t.pace.epochPair.count =
          (if s.policy.active.pace.epochReload = 0 then 65536 else s.policy.active.pace.epochReload) ∧
        t.pace.closingLength = s.pace.openLength ∧
        (∀ i, t.policy.active.pace.meterA.binding = some i →
          t.pace.meterA.run = .running ∧ t.pace.meterA.count = t.policy.active.pace.meterA.threshold) ∧
        (t.policy.active.pace.meterA.binding = none → t.pace.meterA.run = .stopped) ∧
        (∀ i, t.policy.active.pace.meterB.binding = some i →
          t.pace.meterB.run = .running ∧ t.pace.meterB.count = t.policy.active.pace.meterB.threshold) ∧
        (t.policy.active.pace.meterB.binding = none → t.pace.meterB.run = .stopped))

/-- The boundary's refill (`refilled`, which EpochBoundaryOpens puts in the boundary's place for it) pays every slot of the
payout set its demand and every contending slot its weight times the quantum while the demands fit the pie, scales the demands
down where they do not and then writes the OVERCOMMIT record and raises its notice, clamps to the cap, and lowers every lift.
That the record comes before the notice is the model's reading (log entry 7). -/
def Obligations.BoundaryPayout : Prop :=
  ∀ s : State,
    let S := totalDemand s
    let W := totalWeight s
    refill s = refilled s ∧
      (S ≤ s.sched.pie → (refill s).spool = s.spool ∧ (refill s).agent = s.agent ∧ (refill s).originQueue = s.originQueue) ∧
      ∀ i : SlotId,
        let x := s.slot i
        ((refill s).slot i).liftRemaining = x.liftRemaining - 1 ∧
        (¬ InPayout s i → ¬ InContending s i → ((refill s).slot i).balance = x.balance) ∧
        (S ≤ s.sched.pie → InPayout s i → InContending s i →
          ((refill s).slot i).balance =
            min ((s.slotPolicy i).cap : Int)
              (x.balance + (demanded s i + (s.slotPolicy i).weight * ((s.sched.pie - S) / W) : Nat))) ∧
        (S ≤ s.sched.pie → InPayout s i → ¬ InContending s i →
          ((refill s).slot i).balance = min ((s.slotPolicy i).cap : Int) (x.balance + (demanded s i : Nat))) ∧
        (S ≤ s.sched.pie → ¬ InPayout s i → InContending s i →
          ((refill s).slot i).balance =
            min ((s.slotPolicy i).cap : Int) (x.balance + ((s.slotPolicy i).weight * ((s.sched.pie - S) / W) : Nat))) ∧
        (s.sched.pie < S → InPayout s i →
          ((refill s).slot i).balance =
            min ((s.slotPolicy i).cap : Int) (x.balance + (demanded s i * s.sched.pie / S : Nat))) ∧
        (s.sched.pie < S → ¬ InPayout s i → InContending s i →
          ((refill s).slot i).balance = min ((s.slotPolicy i).cap : Int) x.balance)

/-- CAL's expiry completes a RUNNING calibration, with a CALIBRATION DONE record of the epochs requested and its notice; with
any other status it changes nothing at the Monitor. An expiry that a boundary left waiting (log entry 10) is taken after that
boundary's close. One that the next boundary will bring may be taken before its close: the boundary is opened, with the new
epoch number, the apply, the meters and CAL, the pie, pie used 0, the refill, promotion and the release decision; the closing
report stands for the close; and the expiry is taken in the opened epoch: the model's form of it (log entry 35). The apply leaves
the pending digest as it was: the model's choice (log entry 36). With neither, nothing changes (log entry 2). The record comes before the notice: the model's
reading (log entry 7). -/
def Obligations.CalExpiryCompletes : Prop :=
  ∀ s : State, s.inReset = false →
    let completed (u : State) : State :=
      raiseNotice .calibrationDone
        (offerEvent .calibrationDone none (BitVec.ofNat 32 s.monitor.cal.requested)
          { u with monitor := { u.monitor with cal := { s.monitor.cal with status := .complete } } })
    (s.pace.cal.due = true →
      let taken := { s with pace := { s.pace with cal := { s.pace.cal with due := false } } }
      (s.monitor.cal.status = .running → Sys2Proof.Machine.exec .calExpiry s = .next (completed taken)) ∧
      (s.monitor.cal.status ≠ .running → Sys2Proof.Machine.exec .calExpiry s = .next taken)) ∧
    (s.pace.cal.due = false → s.pace.opened = none → LastCountNext s.pace.cal →
      let opened := boundaryOpened s
      let u := decideRelease (headsPromoted (refilled (epochOpened (pieOpened s) opened)))
      let taken :=
        { u with
          pace :=
            { u.pace with
              opened := some (reportHanded opened)
              cal := { s.pace.cal with count := s.pace.cal.reload, run := .stopped, due := false } } }
      taken.pace.epoch = s.pace.epoch + 1 ∧
      (s.monitor.cal.status = .running → Sys2Proof.Machine.exec .calExpiry s = .next (completed taken)) ∧
      (s.monitor.cal.status ≠ .running → Sys2Proof.Machine.exec .calExpiry s = .next taken)) ∧
    (s.pace.cal.due = false → ¬ (s.pace.opened = none ∧ LastCountNext s.pace.cal) →
      Sys2Proof.Machine.exec .calExpiry s = .next s)

/-- A meter's expiry lifts a BOUND or SUSPENDED slot and takes a decision, changes no slot otherwise, and offers the BURST
record in both cases. That the report waits to be taken is log entry 10 (the model's choice); that a lift of amount 0 takes a
decision too is log entry 23 (the model's reading). -/
def Obligations.MeterExpiryLifts : Prop :=
  ∀ (s : State) (b : BurstReport) (rest : List BurstReport), s.inReset = false →
    let lift (u : State) : State :=
      if (s.slot b.slot).state = .bound ∨ (s.slot b.slot).state = .suspended then
        decideRelease
          { u with
            slots :=
              s.slots.set b.slot.val
                { s.slot b.slot with
                  liftRemaining := b.liftEpochs
                  liftAmount := b.liftAmount
                  balance := min ((s.slotPolicy b.slot).cap : Int) ((s.slot b.slot).balance + b.liftAmount) } }
      else u
    (s.pace.meterA.due = b :: rest →
      Sys2Proof.Machine.exec (.meterExpiry .a) s =
        .next
          (offerEvent .burst (some b.slot) (BitVec.ofNat 32 (b.liftEpochs * 65536 + b.liftAmount))
            (lift { s with pace := { s.pace with meterA := { s.pace.meterA with due := rest } } }))) ∧
    (s.pace.meterB.due = b :: rest →
      Sys2Proof.Machine.exec (.meterExpiry .b) s =
        .next
          (offerEvent .burst (some b.slot) (BitVec.ofNat 32 (16777216 + b.liftEpochs * 65536 + b.liftAmount))
            (lift { s with pace := { s.pace with meterB := { s.pace.meterB with due := rest } } })))

/-- A scan pass, whole: the channel loaded, the walk with its STALE records, decrements and orphans, the decision where it lowered
a count, the idle marking and the starvation check at their places (log entry 9). It loads the channel with the active settings; a
RUNNING channel goes on, one told to stop becomes STOPPED. A quiet BOUND slot's idle run rises and its flag is set at the limit,
another BOUND slot's run becomes 0, and every admission mark is cleared. (A slot kept from being quiet by its outstanding count
alone is stated where the Directory's part is taken first, since the Tracker's part may lower that count.) With keys unique, a
record at the stale limit turns STALE, one at both limits is freed and counted as orphaned, and any other stays as it is, a STALE
one younger than a raised stale limit too. -/
def Obligations.ScanPassVisits : Prop :=
  ∀ (idle starve : ScanPlace) (s : State), s.inReset = false →
    (s.pace.scan.run = .running ∨ s.pace.scan.run = .stopping ∧ s.pace.scan.count ≤ 1) →
    ∃ t, Sys2Proof.Machine.exec (.scanPass idle starve) s = .next t ∧ t = passTaken idle starve s ∧
      t.pace.scan.run = (if s.pace.scan.run = .running then .running else .stopped) ∧
      t.pace.scan.count = (if s.policy.active.pace.scanReload = 0 then 256 else s.policy.active.pace.scanReload) ∧
      t.pace.time = s.pace.time ∧ t.pace.epoch = s.pace.epoch ∧ t.policy = s.policy ∧ t.monitor = s.monitor ∧
      t.portF = s.portF ∧ t.portT = s.portT ∧
      (∀ i, (t.slot i).admissionMark = false ∧
        ((s.slot i).state = .bound → (s.slot i).admissionMark = false → (s.slot i).depth = 0 → (s.slot i).outstanding = 0 →
          (t.slot i).idleRun = min 255 ((s.slot i).idleRun + 1) ∧
          (t.slot i).idleFlag = ((s.slot i).idleFlag || decide (s.part.idleLimit ≤ min 255 ((s.slot i).idleRun + 1)))) ∧
        ((s.slot i).state = .bound →
          ((s.slot i).admissionMark = true ∨ (s.slot i).depth ≠ 0 ∨ (idle = .beforeWalk ∧ (s.slot i).outstanding ≠ 0)) →
          (t.slot i).idleRun = 0 ∧ (t.slot i).idleFlag = (s.slot i).idleFlag) ∧
        ((s.slot i).state ≠ .bound →
          (t.slot i).idleRun = (s.slot i).idleRun ∧ (t.slot i).idleFlag = (s.slot i).idleFlag)) ∧
      (KeysUnique s →
        t.tracker.orphaned =
          s.tracker.orphaned +
            BitVec.ofNat 32
              (s.tracker.released.countP fun r =>
                decide (s.part.staleLimit + s.part.orphanLimit ≤ (s.pace.epoch - r.releaseEpoch).toNat)) ∧
        ∀ r ∈ s.tracker.released,
          let age := (s.pace.epoch - r.releaseEpoch).toNat
          (age < s.part.staleLimit → r ∈ t.tracker.released) ∧
          (s.part.staleLimit ≤ age → age < s.part.staleLimit + s.part.orphanLimit →
            { r with state := .stale } ∈ t.tracker.released) ∧
          (s.part.staleLimit + s.part.orphanLimit ≤ age → ∀ r' ∈ t.tracker.released, r'.ex.key ≠ r.ex.key))

/-- A STOPPING scan channel that takes a count which is not its expiry becomes STOPPED holding the lowered count, and nothing
else changes. -/
def Obligations.ScanChannelStops : Prop :=
  ∀ s : State, s.inReset = false → s.pace.scan.run = .stopping → 1 < s.pace.scan.count →
    Sys2Proof.Machine.exec .scanChannelStopped s =
      .next { s with pace := { s.pace with scan := { s.pace.scan with run := .stopped, count := s.pace.scan.count - 1 } } }

/-! ### Requests: arrival, frame checks, responses -/

/-- An MREQ for the part: dropped and counted by the manager list, dropped and counted by the full buffer, or buffered. -/
def Obligations.MreqBuffered : Prop :=
  ∀ (f : Frame) (s : State), Arrives s .f f .request →
    (s.agent.managers ≠ [] → srcAddr f ∉ s.agent.managers →
      Sys2Proof.Machine.exec (.mreqArrival f) s =
        .next { counted .f s with agent := { s.agent with droppedByList := s.agent.droppedByList + 1 } }) ∧
    (s.agent.managers = [] ∨ srcAddr f ∈ s.agent.managers →
      (8 ≤ s.agent.buffer.length →
        Sys2Proof.Machine.exec (.mreqArrival f) s =
          .next { counted .f s with agent := { s.agent with droppedByFull := s.agent.droppedByFull + 1 } }) ∧
      (s.agent.buffer.length < 8 →
        Sys2Proof.Machine.exec (.mreqArrival f) s =
          .next { counted .f s with agent := { s.agent with buffer := s.agent.buffer ++ [f] } }))

/-- A waiting response is placed once the origin queue has space: the request leaves the buffer, a RENAME's address comes into
force, a reset becomes due. With the queue full it goes on waiting. -/
def Obligations.WaitingResponsePlaced : Prop :=
  ∀ (s : State) (w : WaitingResponse), s.inReset = false → s.agent.waiting = some w →
    (64 ≤ s.originQueue.length → Sys2Proof.Machine.exec .responsePlacement s = .next s) ∧
    (s.originQueue.length < 64 →
      ∃ t, Sys2Proof.Machine.exec .responsePlacement s = .next t ∧ t.originQueue = s.originQueue ++ [w.frame] ∧
        t.agent.waiting = none ∧ t.agent.buffer = s.agent.buffer.tail ∧
        (w.completion = .plain → t.agent = { s.agent with buffer := s.agent.buffer.tail, waiting := none }) ∧
        (∀ a, w.completion = .rename a →
          t.agent = { s.agent with buffer := s.agent.buffer.tail, waiting := none, address := a }) ∧
        (∀ x, w.completion = .reset x →
          t.agent = { s.agent with buffer := s.agent.buffer.tail, waiting := none, resetDue := some x }) ∧
        t = { s with originQueue := t.originQueue, agent := t.agent })

/-- A request of a kind code not in the table is answered CORRUPT where its CRC fails and UNKNOWN KIND otherwise, with no other
effect. -/
def Obligations.UnknownKindAnswered : Prop :=
  ∀ (s : State) (req : Frame) (code : Nat), Oldest s req code → code ∉ requestKindCodes →
    Sys2Proof.Machine.exec .unknownKind s =
      .next (respond req (if requestCorrupt req then .corrupt else .unknownKind) 0 [] s)

/-- The frame checks of every request kind whose fields have a fixed size: CORRUPT for a wrong CRC, then BAD FIELD with the
size as detail for a wrong length; neither has another effect. That a CALIBRATE (0x52) and a RESET PART (0x7F) which fail them are
taken by the rows CALIBRATE and RESET_PART_FULL is the model's choice (log entry 15). -/
def Obligations.FrameChecksFirst : Prop :=
  ∀ x ∈ sizedRequests, ∀ (s : State) (req : Frame), Oldest s req x.2.1 →
    (requestCorrupt req = true → Sys2Proof.Machine.exec x.1 s = .next (respond req .corrupt 0 [] s)) ∧
    (requestCorrupt req = false → bodyLength req ≠ x.2.2 + 2 →
      Sys2Proof.Machine.exec x.1 s = .next (respond req .badField x.2.2 [] s))

/-- QUERY PART, READ SLOT, READ COUNTERS, READ MONITOR and READ STAGE DIGEST change nothing but for the response, which reports
the state in which the request was taken. -/
def Obligations.SnapshotReads : Prop :=
  ∀ (s : State) (req : Frame),
    (Sound s req 0x01 0 →
      Sys2Proof.Machine.exec .queryPart s =
        .next
          (respond req .ok 0
            ([0x00#8, 0x48#8, 0x01#8] ++ beBytes 3 s.agent.address.toNat ++ beBytes 6 Config.stationAddress.toNat ++
              beBytes 4 s.pace.epoch.toNat ++ [if s.policy.commitPending then 1#8 else 0#8]) s)) ∧
    (∀ i : SlotId, Sound s req 0x40 1 → field req 0 1 = i.val →
      Sys2Proof.Machine.exec .readSlot s = .next 
          (respond req .ok 0
            (policyReport (s.policy.staged.slots[i]) ++ policyReport (s.policy.active.slots[i]) ++ slotReport (s.slot i)) s)) ∧
    (Sound s req 0x40 1 → 127 < field req 0 1 →
      Sys2Proof.Machine.exec .readSlot s = .next (respond req .badSlot 0 [] s)) ∧
    (Sound s req 0x41 0 →
      Sys2Proof.Machine.exec .readCounters s =
        .next (respond req .ok 0 ((countersReport s).flatMap fun c => beBytes 4 c.toNat) s)) ∧
    (Sound s req 0x42 0 →
      Sys2Proof.Machine.exec .readMonitor s = .next (respond req .ok 0 (monitorReport s.monitor) s)) ∧
    (Sound s req 0x22 0 →
      Sys2Proof.Machine.exec .readStageDigest s =
        .next (respond req .ok 0 (beBytes 2 (crc16 (imageReport s.policy.staged)).toNat) s))

/-! ### Requests: policy -/

/-- STAGE SLOT: BAD SLOT for an index above 127, then BUSY while a commit is pending, then BAD FIELD with the offset of the
first field out of range; otherwise the slot's staged policy is written and nothing else changes. The ranges and the offsets are
spelled out in `slotFields`; that a present epoch ceiling out of range is reported at the value's offset 8, and a flag out of 0
and 1 at the flag's offset 7, is the model's reading (log entry 16). -/
def Obligations.StageSlotWrites : Prop :=
  ∀ (s : State) (req : Frame), Sound s req 0x10 16 →
    (127 < field req 0 1 → Sys2Proof.Machine.exec .stageSlot s = .next (respond req .badSlot 0 [] s)) ∧
    (∀ i : SlotId, field req 0 1 = i.val →
      (s.policy.commitPending = true → Sys2Proof.Machine.exec .stageSlot s = .next (respond req .busy 0 [] s)) ∧
      (s.policy.commitPending = false →
        (∀ n, firstOut (slotFields (body req)) = some n →
          Sys2Proof.Machine.exec .stageSlot s = .next (respond req .badField n [] s)) ∧
        (firstOut (slotFields (body req)) = none →
          Sys2Proof.Machine.exec .stageSlot s =
            .next
              (respond req .ok 0 []
                { s with
                  policy :=
                    { s.policy with
                      staged :=
                        { s.policy.staged with
                          slots := s.policy.staged.slots.set i.val (slotStaged (body req)) } } }))))

/-- The STAGE requests that name no slot: BUSY while a commit is pending, BAD FIELD with the offset of the first field out of
range; otherwise the group of the staged image is written whole, and nothing else. The ranges and the offsets are spelled out in
the list; the offset reported inside an optional field is the model's reading (log entry 16). -/
def Obligations.StageGroupsWrite : Prop :=
  ∀ x ∈ stageGroups, ∀ (s : State) (req : Frame), Sound s req x.2.1 x.2.2.1 →
    (s.policy.commitPending = true → Sys2Proof.Machine.exec x.1 s = .next (respond req .busy 0 [] s)) ∧
    (∀ n, s.policy.commitPending = false → firstOut (x.2.2.2.1 (body req)) = some n →
      Sys2Proof.Machine.exec x.1 s = .next (respond req .badField n [] s)) ∧
    (s.policy.commitPending = false → firstOut (x.2.2.2.1 (body req)) = none →
      Sys2Proof.Machine.exec x.1 s =
        .next
          (respond req .ok 0 [] { s with policy := { s.policy with staged := x.2.2.2.2 (body req) s.policy.staged } }))

/-- COMMIT: BUSY while one is pending; BAD FIELD with 0x0A00 plus the forced index where the tracker is FORCED and the staged
entry is not valid; otherwise the staged image's digest is stored, the flag set, and the answer is ACCEPTED with the digest. -/
def Obligations.CommitAccepts : Prop :=
  ∀ (s : State) (req : Frame), Sound s req 0x20 0 →
    let d := crc16 (imageReport s.policy.staged)
    let pending := { s with policy := { s.policy with commitPending := true, pendingDigest := d } }
    (s.policy.commitPending = true → Sys2Proof.Machine.exec .commit s = .next (respond req .busy 0 [] s)) ∧
    (s.policy.commitPending = false →
      (s.monitor.state ≠ .forced →
        Sys2Proof.Machine.exec .commit s = .next (respond req .accepted 0 (beBytes 2 d.toNat) pending)) ∧
      (∀ p : ProfileId, s.monitor.state = .forced → s.monitor.forced = some p →
        (s.policy.staged.profiles[p].valid = false →
          Sys2Proof.Machine.exec .commit s = .next (respond req .badField (0x0A00 + p.val) [] s)) ∧
        (s.policy.staged.profiles[p].valid = true →
          Sys2Proof.Machine.exec .commit s = .next (respond req .accepted 0 (beBytes 2 d.toNat) pending))))

/-- DISCARD: BUSY while a commit is pending; otherwise every active value is copied into the staged image. -/
def Obligations.DiscardCopiesActive : Prop :=
  ∀ (s : State) (req : Frame), Sound s req 0x21 0 →
    (s.policy.commitPending = true → Sys2Proof.Machine.exec .discard s = .next (respond req .busy 0 [] s)) ∧
    (s.policy.commitPending = false →
      Sys2Proof.Machine.exec .discard s =
        .next (respond req .ok 0 [] { s with policy := { s.policy with staged := s.policy.active } }))

/-! ### Requests: slots -/

/-- BIND: BAD SLOT for slot 0 or an index above 127, NOT VACANT, DUPLICATE, in that order; otherwise the slot is BOUND to the
address under the next generation, with its staged policy active, its dynamic fields and counters 0, and its spool period
restarted. -/
def Obligations.BindBindsSlot : Prop :=
  ∀ (s : State) (req : Frame), Sound s req 0x30 4 →
    (field req 0 1 = 0 ∨ 127 < field req 0 1 → Sys2Proof.Machine.exec .bind s = .next (respond req .badSlot 0 [] s)) ∧
    (∀ i : SlotId, i ≠ 0 → field req 0 1 = i.val →
      let a := BitVec.ofNat 24 (field req 1 3)
      ((s.slot i).state ≠ .vacant → Sys2Proof.Machine.exec .bind s = .next (respond req .notVacant 0 [] s)) ∧
      ((s.slot i).state = .vacant → mapLookup s a ≠ none →
        Sys2Proof.Machine.exec .bind s = .next (respond req .duplicate 0 [] s)) ∧
      ((s.slot i).state = .vacant → mapLookup s a = none →
        Sys2Proof.Machine.exec .bind s =
          .next
            (respond req .ok 0 []
              { s with
                slots :=
                  s.slots.set i.val
                    { s.slot i with
                      state := .bound, address := some a, gen := (s.slot i).gen + 1, balance := 0, outstanding := 0
                      releasedEpoch := 0, liftRemaining := 0, queue := [], admissionMark := false, idleRun := 0
                      idleFlag := false, violations := 0, counters := zeroSlotCounters
                      spool :=
                        { (s.slot i).spool with batching := 0, periodReleased := 0, periodCompleted := 0, fullNext := true } }
                policy :=
                  { s.policy with
                    active :=
                      { s.policy.active with
                        slots := s.policy.active.slots.set i.val (s.policy.staged.slots[i]) } } })))

/-- UNBIND: BAD SLOT, BAD STATE, or the unbind: the slot's held commands withdrawn from head to tail, each answered with a DONE
WITHDRAWN that is placed, or lost under its code where the origin queue is full; balance and lift remaining 0, and the slot
DRAINING, or VACANT without an address where nothing is outstanding; every other field of the slot and of the part stays. That
no frame leaves the origin queue between two withdrawals is the model's choice (log entry 30). -/
def Obligations.UnbindDrainsSlot : Prop :=
  ∀ (s : State) (req : Frame), Sound s req 0x31 1 →
    (field req 0 1 = 0 ∨ 127 < field req 0 1 → Sys2Proof.Machine.exec .unbind s = .next (respond req .badSlot 0 [] s)) ∧
    (∀ i : SlotId, i ≠ 0 → field req 0 1 = i.val →
      ((s.slot i).state = .vacant ∨ (s.slot i).state = .draining →
        Sys2Proof.Machine.exec .unbind s = .next (respond req .badState 0 [] s)) ∧
      ((s.slot i).state ≠ .vacant → (s.slot i).state ≠ .draining →
        let x := s.slot i
        let dones := x.queue.map fun h => buildDone s.transportType h.frame .withdrawn
        let places := 64 - s.originQueue.length
        Sys2Proof.Machine.exec .unbind s =
          .next
            (respond req .ok 0 []
              { s with
                slots :=
                  s.slots.set i.val
                    { x with
                      state := if x.outstanding = 0 then .vacant else .draining
                      address := if x.outstanding = 0 then none else x.address
                      queue := [], balance := 0, liftRemaining := 0
                      counters :=
                        { x.counters with withdrawn := x.counters.withdrawn + BitVec.ofNat 32 x.queue.length } }
                originQueue := s.originQueue ++ dones.take places
                lostDone :=
                  { s.lostDone with
                    withdrawn := s.lostDone.withdrawn + BitVec.ofNat 32 (x.queue.length - places) } })))

/-- SUSPEND of a BOUND slot and RESUME of a SUSPENDED one change its state, the latter with a release decision; in any other
state they are refused with BAD STATE, and with BAD SLOT above 127. -/
def Obligations.SuspendAndResume : Prop :=
  ∀ (s : State) (req : Frame),
    (Sound s req 0x32 1 →
      (127 < field req 0 1 → Sys2Proof.Machine.exec .suspend s = .next (respond req .badSlot 0 [] s)) ∧
      (∀ i : SlotId, field req 0 1 = i.val →
        ((s.slot i).state = .bound →
          Sys2Proof.Machine.exec .suspend s =
            .next (respond req .ok 0 [] { s with slots := s.slots.set i.val { s.slot i with state := .suspended } })) ∧
        ((s.slot i).state ≠ .bound → Sys2Proof.Machine.exec .suspend s = .next (respond req .badState 0 [] s)))) ∧
    (Sound s req 0x33 1 →
      (127 < field req 0 1 → Sys2Proof.Machine.exec .resume s = .next (respond req .badSlot 0 [] s)) ∧
      (∀ i : SlotId, field req 0 1 = i.val →
        ((s.slot i).state = .suspended →
          Sys2Proof.Machine.exec .resume s =
            .next
              (respond req .ok 0 []
                (decideRelease { s with slots := s.slots.set i.val { s.slot i with state := .bound } }))) ∧
        ((s.slot i).state ≠ .suspended → Sys2Proof.Machine.exec .resume s = .next (respond req .badState 0 [] s))))

/-- CLEAR QUARANTINE of a QUARANTINED slot sets its violation count to 0, makes it BOUND and takes a release decision; in any
other state it is refused with BAD STATE. -/
def Obligations.ClearQuarantineBinds : Prop :=
  ∀ (s : State) (req : Frame), Sound s req 0x34 1 →
    (127 < field req 0 1 → Sys2Proof.Machine.exec .clearQuarantine s = .next (respond req .badSlot 0 [] s)) ∧
    (∀ i : SlotId, field req 0 1 = i.val →
      ((s.slot i).state = .quarantined →
        Sys2Proof.Machine.exec .clearQuarantine s =
          .next
            (respond req .ok 0 []
              (decideRelease
                { s with slots := s.slots.set i.val { s.slot i with state := .bound, violations := 0 } }))) ∧
      ((s.slot i).state ≠ .quarantined →
        Sys2Proof.Machine.exec .clearQuarantine s = .next (respond req .badState 0 [] s)))

/-! ### Requests: Rate Monitor -/

/-- FORCE PROFILE of an index in range whose entry is valid, in the staged table too while a commit is pending, makes the
tracker FORCED on it, and is refused with BAD FIELD otherwise. RELEASE FORCE takes a FORCED tracker to SEEKING and is refused
with BAD STATE otherwise. The detail 0 of the BAD FIELD is the model's reading (log entry 16). -/
def Obligations.ForceAndRelease : Prop :=
  ∀ (s : State) (req : Frame),
    (Sound s req 0x50 1 →
      (15 < field req 0 1 → Sys2Proof.Machine.exec .forceProfile s = .next (respond req .badField 0 [] s)) ∧
      (∀ p : ProfileId, field req 0 1 = p.val →
        (s.policy.active.profiles[p].valid = true →
          (s.policy.commitPending = false ∨ s.policy.staged.profiles[p].valid = true) →
          Sys2Proof.Machine.exec .forceProfile s =
            .next
              (respond req .ok 0 []
                { s with
                  monitor :=
                    { s.monitor with
                      state := .forced, forced := some p, candidate := none, run := 0, miss := 0, selected := none } })) ∧
        (s.policy.active.profiles[p].valid = false ∨
            (s.policy.commitPending = true ∧ s.policy.staged.profiles[p].valid = false) →
          Sys2Proof.Machine.exec .forceProfile s = .next (respond req .badField 0 [] s)))) ∧
    (Sound s req 0x51 0 →
      (s.monitor.state = .forced →
        Sys2Proof.Machine.exec .releaseForce s =
          .next
            (respond req .ok 0 []
              { s with
                monitor :=
                  { s.monitor with
                    state := .seeking, forced := none, candidate := none, run := 0, miss := 0, selected := none } })) ∧
      (s.monitor.state ≠ .forced → Sys2Proof.Machine.exec .releaseForce s = .next (respond req .badState 0 [] s)))

/-- CALIBRATE with a count above 0: BUSY while one is RUNNING, BAD FIELD for a budget of 0, otherwise the record is replaced and
CAL armed. With a count of 0 it cancels a RUNNING calibration, withdraws the arming and tells CAL to stop, and changes nothing
otherwise. The detail 1 of the BAD FIELD is the model's reading (log entry 16), and so is the clearing of a waiting expiry by
the acceptance (log entry 19). That the kind is split over two rows is the model's choice (log entry 15). -/
def Obligations.CalibrateAndCancel : Prop :=
  ∀ (s : State) (req : Frame), Sound s req 0x52 3 →
    (0 < field req 0 1 →
      (s.monitor.cal.status = .running → Sys2Proof.Machine.exec .calibrate s = .next (respond req .busy 0 [] s)) ∧
      (s.monitor.cal.status ≠ .running → field req 1 2 = 0 →
        Sys2Proof.Machine.exec .calibrate s = .next (respond req .badField 1 [] s)) ∧
      (s.monitor.cal.status ≠ .running → field req 1 2 ≠ 0 →
        Sys2Proof.Machine.exec .calibrate s =
          .next
            (respond req .ok 0 []
              { s with
                monitor :=
                  { s.monitor with
                    cal :=
                      { status := .running, requested := field req 0 1
                        firstEpoch := s.pace.epoch + 1
                        run := 0, budget := field req 1 2, maxCompleted := 0, sumCompleted := 0, maxMeanLatency := 0 } }
                pace :=
                  { s.pace with
                    cal :=
                      { s.pace.cal with
                        armed := some (field req 0 1), due := false
                        run := if s.pace.cal.run = .stopping then .stopped else s.pace.cal.run } } }))) ∧
    (field req 0 1 = 0 →
      (s.monitor.cal.status ≠ .running → Sys2Proof.Machine.exec .calibrateCancel s = .next (respond req .ok 0 [] s)) ∧
      (s.monitor.cal.status = .running →
        Sys2Proof.Machine.exec .calibrateCancel s =
          .next
            (respond req .ok 0 []
              { s with
                monitor := { s.monitor with cal := { s.monitor.cal with status := .cancelled } }
                pace :=
                  { s.pace with
                    cal :=
                      { s.pace.cal with
                        armed := none
                        run := if s.pace.cal.run = .running then .stopping else s.pace.cal.run } } })))

/-! ### Requests: Usage Spool -/

/-- SPOOL READ refuses a maximum outside 1..60 with BAD FIELD and removes nothing; otherwise it removes from the head the lesser of
the maximum and the occupancy, and answers with their count and the entries, oldest first, in every spool state. The detail 0 of
the BAD FIELD is the model's reading (log entry 16). -/
def Obligations.SpoolReadRemoves : Prop :=
  ∀ (s : State) (req : Frame), Sound s req 0x60 1 →
    (field req 0 1 = 0 ∨ 60 < field req 0 1 →
      Sys2Proof.Machine.exec .spoolRead s = .next (respond req .badField 0 [] s)) ∧
    (1 ≤ field req 0 1 → field req 0 1 ≤ 60 →
      let n := min (field req 0 1) s.spool.entries.length
      Sys2Proof.Machine.exec .spoolRead s =
        .next
          (respond req .ok 0
            ([BitVec.ofNat 8 n, 0#8] ++ (s.spool.entries.take n).flatMap SpoolEntry.bytes)
            { s with spool := { s.spool with entries := s.spool.entries.drop n } }))

/-- SPOOL TRIGGER in PRE is answered OK: the trigger's discard leaves, under RING THEN STOP, at least the larger of 1 and the
lesser of the post reserve and the capacity free; the state becomes POST and the TRIGGER record is offered. In any other state
it is answered BAD STATE and only the ignored count rises. -/
def Obligations.SpoolTriggerTakes : Prop :=
  ∀ (s : State) (req : Frame), Sound s req 0x61 0 →
    (s.spool.state ≠ .pre →
      Sys2Proof.Machine.exec .spoolTrigger s =
        .next (respond req .badState 0 [] { s with spool := { s.spool with ignored := s.spool.ignored + 1 } })) ∧
    (s.spool.state = .pre →
      ∃ kept : List SpoolEntry,
        (s.spoolSettings.mode = .ringThenStop →
          (∃ k, kept = s.spool.entries.drop k) ∧
          kept.length =
            min s.spool.entries.length
              (capacityOf s.spoolSettings - max 1 (min s.spoolSettings.postReserve (capacityOf s.spoolSettings)))) ∧
        (s.spoolSettings.mode ≠ .ringThenStop → kept = s.spool.entries) ∧
        Sys2Proof.Machine.exec .spoolTrigger s =
          .next
            (respond req .ok 0 []
              (offerRecord (.event .trigger none 0#32 s.pace.epoch s.pace.time)
                { s with spool := { s.spool with entries := kept, state := .post } }).1))

/-- SPOOL CLEAR is answered OK in every state: it empties the spool, puts it in the first state of its active mode, sets every
slot's full-next flag and the batch count to 0, and keeps the rest. -/
def Obligations.SpoolClearEmpties : Prop :=
  ∀ (s : State) (req : Frame), Sound s req 0x62 0 →
    ∃ u, Sys2Proof.Machine.exec .spoolClear s = .next (respond req .ok 0 [] u) ∧
      u.spool =
        { s.spool with
          entries := []
          batchCount := 0
          state :=
            match s.policy.active.spool.mode with
            | .off => .off
            | .stop => .collecting
            | .ring => .collecting
            | .ringThenStop => .pre
            | .offThenRing => .pre
            | .offThenStop => .pre } ∧
      (∀ i, u.slot i = { s.slot i with spool := { (s.slot i).spool with fullNext := true } }) ∧
      u = { s with spool := u.spool, slots := u.slots }

/-! ### Requests: the Agent's own -/

/-- CLEAR NOTICES with a bit above 11 is refused with BAD FIELD and clears nothing; otherwise each named flag is cleared, the
others stay, and no frame but the response is sent. -/
def Obligations.ClearNoticesClears : Prop :=
  ∀ (s : State) (req : Frame), Sound s req 0x70 2 →
    (4096 ≤ field req 0 2 → Sys2Proof.Machine.exec .clearNotices s = .next (respond req .badField 0 [] s)) ∧
    (field req 0 2 < 4096 →
      ∃ flags : BitVec 12,
        (∀ k : Nat, k < 12 → flags.getLsbD k = (s.agent.flags.getLsbD k && !(field req 0 2).testBit k)) ∧
        Sys2Proof.Machine.exec .clearNotices s = .next (respond req .ok 0 [] { s with agent := { s.agent with flags := flags } }))

/-- SET MANAGERS: CORRUPT, then BAD FIELD 0 without a count, BAD FIELD 0 for a count above 4, BAD FIELD with the size for a wrong
length; otherwise the whole list is replaced by the addresses carried. -/
def Obligations.SetManagersReplaces : Prop :=
  ∀ (s : State) (req : Frame), Oldest s req 0x71 →
    (requestCorrupt req = true → Sys2Proof.Machine.exec .setManagers s = .next (respond req .corrupt 0 [] s)) ∧
    (requestCorrupt req = false →
      (bodyLength req < 3 → Sys2Proof.Machine.exec .setManagers s = .next (respond req .badField 0 [] s)) ∧
      (3 ≤ bodyLength req → 4 < field req 0 1 →
        Sys2Proof.Machine.exec .setManagers s = .next (respond req .badField 0 [] s)) ∧
      (3 ≤ bodyLength req → field req 0 1 ≤ 4 → bodyLength req ≠ 1 + 3 * field req 0 1 + 2 →
        Sys2Proof.Machine.exec .setManagers s = .next (respond req .badField (1 + 3 * field req 0 1) [] s)) ∧
      (3 ≤ bodyLength req → field req 0 1 ≤ 4 → bodyLength req = 1 + 3 * field req 0 1 + 2 →
        ∃ list : List FabAddr, list.length = field req 0 1 ∧
          (∀ k : Nat, k < field req 0 1 → list[k]? = some (BitVec.ofNat 24 (field req (1 + 3 * k) 3))) ∧
          Sys2Proof.Machine.exec .setManagers s =
            .next (respond req .ok 0 [] { s with agent := { s.agent with managers := list } })))

/-- RENAME and RESET PART take effect with the placement of their response. RENAME of an address the map does not hold answers
from the old address, and the placement brings the new one into force; RESET PART answers OK, and the placement makes the reset
due; with the origin queue full the response waits and keeps what its placement will complete. RENAME of a mapped address is
DENIED; a scope that is neither 1 nor 2 is BAD FIELD 0, taken by the row RESET_PART_FULL: the model's choice (log entry 15). That
a mapped address already in force is DENIED too is the model's choice (log entry 34). -/
def Obligations.RenameAndResetPart : Prop :=
  ∀ (s : State) (req : Frame),
    let response := buildMrsp s.transportType s.agent.address req 0x00#8 0 []
    let sent := { s with originQueue := s.originQueue ++ [response] }
    let agent := { s.agent with buffer := s.agent.buffer.tail, waiting := none }
    let kept (c : Completion) : State := { s with agent := { s.agent with waiting := some { frame := response, completion := c } } }
    (Sound s req 0x72 3 →
      let a := BitVec.ofNat 24 (field req 0 3)
      (mapLookup s a ≠ none → Sys2Proof.Machine.exec .rename s = .next (respond req .denied 0 [] s)) ∧
      (mapLookup s a = none → s.originQueue.length < 64 →
        Sys2Proof.Machine.exec .rename s = .next { sent with agent := { agent with address := a } }) ∧
      (mapLookup s a = none → 64 ≤ s.originQueue.length →
        Sys2Proof.Machine.exec .rename s = .next (kept (.rename a)))) ∧
    (Sound s req 0x7F 1 →
      (field req 0 1 = 1 → s.originQueue.length < 64 →
        Sys2Proof.Machine.exec .resetPartFull s = .next { sent with agent := { agent with resetDue := some .full } }) ∧
      (field req 0 1 = 1 → 64 ≤ s.originQueue.length →
        Sys2Proof.Machine.exec .resetPartFull s = .next (kept (.reset .full))) ∧
      (field req 0 1 = 2 → s.originQueue.length < 64 →
        Sys2Proof.Machine.exec .resetPartTraffic s =
          .next { sent with agent := { agent with resetDue := some .traffic } }) ∧
      (field req 0 1 = 2 → 64 ≤ s.originQueue.length →
        Sys2Proof.Machine.exec .resetPartTraffic s = .next (kept (.reset .traffic))) ∧
      (field req 0 1 ≠ 1 → field req 0 1 ≠ 2 →
        Sys2Proof.Machine.exec .resetPartFull s = .next (respond req .badField 0 [] s)))

/-! ### Soft resets -/

/-- A FULL reset, whole: every block at its power-on state (R11, R35, R57, R81, R100, R118, R131, R147, R157, R168), the Pace
Bank as it begins after a reset, with no expiry and no close waiting; kept are the link states, turns, queues and transmissions
of the ports, the release slot, the origin queue, the management address and the manager list. The pending digest, the closing
epoch's length, CAL's and the meters' counts and the compression counts are the model's choice (log entry 24), and so are every
block's part in one step (log entry 32) and that the command queue and the counter of free values stay (log entry 28). -/
def Obligations.FullResetState : Prop :=
  ∀ s : State, s.inReset = false → s.agent.resetDue = some .full →
    let cleared (x : PortSide) : PortSide :=
      { x with received := 0, transmitted := 0, egressDiscards := 0, forwardOverflow := 0, receiveErrors := 0 }
    let slot (i : SlotId) : Slot :=
      { state := if i = 0 then .bound else .vacant
        address := none, gen := 0, balance := 0, outstanding := 0, releasedEpoch := 0, liftRemaining := 0, liftAmount := 0
        queue := [], admissionMark := false, idleRun := 0, idleFlag := false, violations := 0
        counters :=
          { admitted := 0, released := 0, withdrawn := 0, abortedHeld := 0, turnedAway := 0, sectorsReleased := 0
            sectorsCompleted := 0, lateCompletions := 0 }
        spool :=
          { batching := 0, periodReleased := 0, periodCompleted := 0
            baseline := { balance := 0, depth := 0, outstanding := 0, released := 0, completed := 0 }
            compression := 0, fullNext := true } }
    let t : State :=
      { inReset := false
        portF := cleared s.portF
        portT := cleared s.portT
        originQueue := s.originQueue
        originDiscards := 0
        releaseSlot := s.releaseSlot
        holdConsumed := 0
        sorter := { malformed := 0, unscheduled := 0, unmatched := 0, misported := 0 }
        slots := Vector.ofFn slot
        lostDone :=
          { turnedAwayFull := 0, turnedAwayQueue := 0, withdrawn := 0, quarantined := 0, aborted := 0, refusedUnlisted := 0 }
        sched :=
          { pie := 65535, pieUsed := 0, ringFeed := 127, ringLive := 127, ringStudy := 127, ringBulk := 127, holdTicks := none
            refundsDiscarded := 0 }
        tracker := { released := [], doneAnomalies := 0, orphaned := 0 }
        monitor :=
          { completed := 0, count := 0, latencySum := 0, answered := false
            last := { completed := 0, count := 0, latencySum := 0, holdSpan := 0, pieUsed := 0, pie := 0, saturated := false }
            state := .seeking, candidate := none, run := 0, miss := 0, selected := none, forced := none, silentRun := 0
            cal :=
              { status := .none, requested := 0, firstEpoch := 0, run := 0, budget := 0, maxCompleted := 0, sumCompleted := 0
                maxMeanLatency := 0 } }
        pace :=
          { time := 0, epoch := 0
            epochPair := { count := 200, run := .running, phase := 0, prescale := .div1, reload := 200 }
            openLength := 200, closingLength := 200, opened := none
            scan := { count := 25, run := .running, phase := 0, prescale := .div4096, reload := 25 }
            cal := { count := 0, run := .stopped, reload := 0, armed := none, due := false }
            holdSpan := 0
            meterA := { count := 256, run := .stopped, due := [] }
            meterB := { count := 256, run := .stopped, due := [] } }
        spool :=
          { entries := [], state := .off, summaryCount := 0, markCount := 0, batchCount := 0, dropped := 0, ignored := 0 }
        policy := { staged := defaultImage, active := defaultImage, commitPending := false, pendingDigest := 0 }
        agent :=
          { address := s.agent.address, managers := s.agent.managers, buffer := [], waiting := none, resetDue := none, flags := 0
            droppedByList := 0, droppedByFull := 0, noticesLost := 0 }
        freeChoices := s.freeChoices
        pending := s.pending }
    Sys2Proof.Machine.exec .fullReset s = .next t ∧ partCounters t = List.replicate 30 0

/-- A TRAFFIC reset, whole: every hold queue emptied with a DONE WITHDRAWN for each held command, placed or lost under its code,
and the released list emptied; balances, outstanding counts, per-epoch values, lifts and pie used 0, idle state cleared, every
drain ended, the countdown stopped, the Monitor SEEKING with a RUNNING calibration cancelled and CAL told to stop, the meters
loaded again; then the RESET record. It keeps the other bindings, the policy, the pie and the ring pointers, the times, the
spool but for that record, both ports and the release slot. The order of the blocks' parts is the model's choice (log entry 32).
So is it that no frame leaves the origin queue between two withdrawals (log entry 30). That an expiry of a meter or of CAL that
waits is kept, to be taken after the reset, is the model's reading (log entries 10 and 19). -/
def Obligations.TrafficResetState : Prop :=
  ∀ s : State, s.inReset = false → s.agent.resetDue = some .traffic →
    ∃ t, Sys2Proof.Machine.exec .trafficReset s = .next t ∧
      (let u := offerEvent .reset none 2#32 (trafficCleared s)
      t = { u with agent := { u.agent with resetDue := none } }) ∧
      (∀ i : SlotId,
        (t.slot i).queue = [] ∧ (t.slot i).balance = 0 ∧ (t.slot i).outstanding = 0 ∧ (t.slot i).releasedEpoch = 0 ∧
          (t.slot i).liftRemaining = 0 ∧ (t.slot i).liftAmount = 0 ∧ (t.slot i).admissionMark = false ∧
          (t.slot i).idleFlag = false ∧ (t.slot i).idleRun = 0 ∧ (t.slot i).gen = (s.slot i).gen ∧
          (t.slot i).violations = (s.slot i).violations ∧
          (t.slot i).counters.withdrawn = (s.slot i).counters.withdrawn + BitVec.ofNat 32 (s.slot i).depth ∧
          (t.slot i).counters.admitted = (s.slot i).counters.admitted ∧
          (t.slot i).spool = (s.slot i).spool ∧
          ((s.slot i).state = .draining → (t.slot i).state = .vacant ∧ (t.slot i).address = none) ∧
          ((s.slot i).state ≠ .draining →
            (t.slot i).state = (s.slot i).state ∧ (t.slot i).address = (s.slot i).address)) ∧
      t.tracker = { s.tracker with released := [] } ∧
      t.sched = { s.sched with pieUsed := 0, holdTicks := none } ∧
      t.monitor.state = .seeking ∧ t.monitor.candidate = none ∧ t.monitor.selected = none ∧ t.monitor.forced = none ∧
      t.monitor.run = 0 ∧ t.monitor.miss = 0 ∧ t.monitor.silentRun = 0 ∧ t.monitor.completed = 0 ∧ t.monitor.count = 0 ∧
      t.monitor.latencySum = 0 ∧ t.monitor.answered = false ∧ t.monitor.last = s.monitor.last ∧
      (s.monitor.cal.status = .running → t.monitor.cal = { s.monitor.cal with status := .cancelled }) ∧
      (s.monitor.cal.status ≠ .running → t.monitor.cal = s.monitor.cal) ∧
      t.policy = s.policy ∧ t.pace.time = s.pace.time ∧ t.pace.epoch = s.pace.epoch ∧
      t.pace.epochPair = s.pace.epochPair ∧ t.pace.scan = s.pace.scan ∧ t.pace.holdSpan = 0 ∧
      t.portF = s.portF ∧ t.portT = s.portT ∧ t.releaseSlot = s.releaseSlot ∧ t.sorter = s.sorter ∧
      t.agent.address = s.agent.address ∧ t.agent.managers = s.agent.managers ∧ t.agent.buffer = s.agent.buffer ∧
      t.agent.resetDue = none

/-! ### Notices and records -/

/-- A raise that finds its flag set changes nothing. One that finds it clear sets it and sends a NOTICE on each route whose
address is present and whose mask includes the kind, route A first; a frame that finds the origin queue full is lost and
counted. That no frame leaves the origin queue between the two is the model's choice (log entry 30). -/
def Obligations.NoticeRaise : Prop :=
  ∀ (k : NoticeKind) (s : State),
    (s.agent.flags.getLsbD k.code = true → raiseNotice k s = s) ∧
    (s.agent.flags.getLsbD k.code = false →
      let flags := s.agent.flags ||| (1#12 <<< k.code)
      let frames : List Frame :=
        ([s.policy.active.routeA, s.policy.active.routeB].filterMap fun r =>
          match r.address with
          | none => none
          | some a =>
            if r.mask.getLsbD k.code then
              some (buildNotice s.transportType s.agent.address a k flags s.pace.epoch)
            else none)
      (raiseNotice k s).agent.flags = flags ∧
      (raiseNotice k s).originQueue = s.originQueue ++ frames.take (64 - s.originQueue.length) ∧
      (raiseNotice k s).agent.noticesLost =
        s.agent.noticesLost + BitVec.ofNat 32 (frames.length - (64 - s.originQueue.length)) ∧
      raiseNotice k s =
        { s with
          originQueue := (raiseNotice k s).originQueue
          agent := { s.agent with flags := flags, noticesLost := (raiseNotice k s).agent.noticesLost } })

/-- A record offered to the spool. In OFF, and in PRE under the OFF THEN modes: not written, not counted. In FROZEN: dropped and
counted. Under the stop behaviour: appended below capacity, dropped with a count and SPOOL FULL at it; in POST the take that
brings occupancy to capacity freezes the spool and raises SPOOL FROZEN. Under the ring behaviour: appended, after the oldest
entry is discarded at capacity. A take that brings occupancy from below the watermark to it raises WATERMARK; that it comes
before SPOOL FROZEN is the model's choice (log entry 30). An EVENT record of a kind in the trigger mask then offers the trigger,
taken in PRE and counted as ignored elsewhere: that it is counted in every other state, and whether the record was written or
not, is the model's reading (log entry 27). Only the spool, the notice flags and the origin queue change. -/
def Obligations.SpoolTakesRecord : Prop :=
  ∀ (e : SpoolEntry) (s : State),
    let mode := s.spoolSettings.mode
    let capacity := entryLimit s.spoolSettings
    let n := s.spool.entries.length
    let put (es : List SpoolEntry) : State :=
      let u := { s with spool := { s.spool with entries := es } }
      if n < s.spoolSettings.watermark ∧ s.spoolSettings.watermark ≤ es.length then raiseNotice .watermark u else u
    let full : State := raiseNotice .spoolFull { s with spool := { s.spool with dropped := s.spool.dropped + 1 } }
    (s.spool.state = .off → offerRecord e s = (s, false)) ∧
    (s.spool.state = .pre → mode = .offThenRing ∨ mode = .offThenStop → offerRecord e s = (s, false)) ∧
    (s.spool.state = .frozen →
      offerRecord e s = ({ s with spool := { s.spool with dropped := s.spool.dropped + 1 } }, false)) ∧
    (s.spool.state = .collecting → mode = .stop →
      (n < capacity → offerRecord e s = (put (s.spool.entries ++ [e]), true)) ∧
      (capacity ≤ n → offerRecord e s = (full, false))) ∧
    (s.spool.state = .post → mode = .ringThenStop ∨ mode = .offThenStop →
      (n + 1 < capacity → offerRecord e s = (put (s.spool.entries ++ [e]), true)) ∧
      (n + 1 = capacity →
        let u := put (s.spool.entries ++ [e])
        offerRecord e s = (raiseNotice .spoolFrozen { u with spool := { u.spool with state := .frozen } }, true)) ∧
      (capacity ≤ n → offerRecord e s = (full, false))) ∧
    ((s.spool.state = .collecting ∧ mode = .ring) ∨ (s.spool.state = .pre ∧ mode = .ringThenStop) ∨
        (s.spool.state = .post ∧ mode = .offThenRing) →
      (n < capacity → offerRecord e s = (put (s.spool.entries ++ [e]), true)) ∧
      (capacity ≤ n → offerRecord e s = (put (s.spool.entries.drop 1 ++ [e]), true))) ∧
    (offerRecord e s).1 =
      { s with
        spool := (offerRecord e s).1.spool, originQueue := (offerRecord e s).1.originQueue
        agent := (offerRecord e s).1.agent } ∧
    ∀ (k : EventKind) (slot : Option SlotId) (value : BitVec 32),
      let u := (offerRecord (.event k slot value s.pace.epoch s.pace.time) s).1
      offerEvent k slot value s =
        if s.spoolSettings.triggerMask.getLsbD k.code = true then
          if u.spool.state = .pre then triggerTaken slot k.code u
          else { u with spool := { u.spool with ignored := u.spool.ignored + 1 } }
        else u

/-! ### Invariants -/

/-- Every step keeps the stated sizes of the queues, the request buffer and the manager list. -/
def Obligations.StepKeepsQueuesBounded : Prop :=
  ∀ s t : State, QueuesBounded s → Sys2Proof.Machine.step s = .next t → QueuesBounded t

/-- Every step keeps every value of both policy images in the range its STAGE request accepts. -/
def Obligations.StepKeepsPolicyInRange : Prop :=
  ∀ s t : State, PolicyInRange s → Sys2Proof.Machine.step s = .next t → PolicyInRange t

/-- Every step keeps what holds of the records together: unique keys, held records in their slot's queue under its generation,
outstanding counts exact. -/
def Obligations.StepKeepsRecordsSound : Prop :=
  ∀ s t : State, RecordsSound s → Sys2Proof.Machine.step s = .next t → RecordsSound t

/-- Every step keeps the live records within the pool's 1024. -/
def Obligations.StepKeepsPoolBounded : Prop :=
  ∀ s t : State, PoolBounded s → Sys2Proof.Machine.step s = .next t → PoolBounded t

/-- Every step keeps, for every slot, admitted equal to released plus withdrawn plus aborted-held plus depth, modulo 2^32. -/
def Obligations.StepKeepsAdmissionsAccounted : Prop :=
  ∀ s t : State, AdmissionsAccounted s → Sys2Proof.Machine.step s = .next t → AdmissionsAccounted t

/-- Every step keeps every balance between -32768 and the slot's active cap. -/
def Obligations.StepKeepsBalancesBounded : Prop :=
  ∀ s t : State, BalancesBounded s → Sys2Proof.Machine.step s = .next t → BalancesBounded t

/-- Every step keeps slot 0 open and without an address, and the address map one to one. -/
def Obligations.StepKeepsDirectorySound : Prop :=
  ∀ s t : State, DirectorySound s → Sys2Proof.Machine.step s = .next t → DirectorySound t

/-- Every step keeps the profile that a LOCKED or FORCED tracker names valid. -/
def Obligations.StepKeepsNamedProfileValid : Prop :=
  ∀ s t : State, NamedProfileValid s → Sys2Proof.Machine.step s = .next t → NamedProfileValid t

/-- Every step keeps the spool's occupancy within its capacity. -/
def Obligations.StepKeepsSpoolBounded : Prop :=
  ∀ s t : State, SpoolBounded s → Sys2Proof.Machine.step s = .next t → SpoolBounded t

/-- The state right after reset satisfies every invariant. -/
def Obligations.ResetSatisfiesInvariants : Prop := AllInvariants Sys2Proof.Machine.State.reset
end

