-- ==== Sys2Proof/Laws/State.lean ====
section
/-! SUPPORT. One lemma for each field and each update of the state: what an update leaves as it is, and what it writes. -/

namespace Sys2Proof.Machine

/-! ### `setSlot` -/

@[simp] theorem setSlot_inReset (s : State) (i : SlotId) (v : Slot) : (s.setSlot i v).inReset = s.inReset := rfl
@[simp] theorem setSlot_portF (s : State) (i : SlotId) (v : Slot) : (s.setSlot i v).portF = s.portF := rfl
@[simp] theorem setSlot_portT (s : State) (i : SlotId) (v : Slot) : (s.setSlot i v).portT = s.portT := rfl
@[simp] theorem setSlot_originQueue (s : State) (i : SlotId) (v : Slot) : (s.setSlot i v).originQueue = s.originQueue := rfl
@[simp] theorem setSlot_originDiscards (s : State) (i : SlotId) (v : Slot) : (s.setSlot i v).originDiscards = s.originDiscards := rfl
@[simp] theorem setSlot_releaseSlot (s : State) (i : SlotId) (v : Slot) : (s.setSlot i v).releaseSlot = s.releaseSlot := rfl
@[simp] theorem setSlot_holdConsumed (s : State) (i : SlotId) (v : Slot) : (s.setSlot i v).holdConsumed = s.holdConsumed := rfl
@[simp] theorem setSlot_sorter (s : State) (i : SlotId) (v : Slot) : (s.setSlot i v).sorter = s.sorter := rfl
@[simp] theorem setSlot_lostDone (s : State) (i : SlotId) (v : Slot) : (s.setSlot i v).lostDone = s.lostDone := rfl
@[simp] theorem setSlot_sched (s : State) (i : SlotId) (v : Slot) : (s.setSlot i v).sched = s.sched := rfl
@[simp] theorem setSlot_tracker (s : State) (i : SlotId) (v : Slot) : (s.setSlot i v).tracker = s.tracker := rfl
@[simp] theorem setSlot_monitor (s : State) (i : SlotId) (v : Slot) : (s.setSlot i v).monitor = s.monitor := rfl
@[simp] theorem setSlot_pace (s : State) (i : SlotId) (v : Slot) : (s.setSlot i v).pace = s.pace := rfl
@[simp] theorem setSlot_spool (s : State) (i : SlotId) (v : Slot) : (s.setSlot i v).spool = s.spool := rfl
@[simp] theorem setSlot_policy (s : State) (i : SlotId) (v : Slot) : (s.setSlot i v).policy = s.policy := rfl
@[simp] theorem setSlot_agent (s : State) (i : SlotId) (v : Slot) : (s.setSlot i v).agent = s.agent := rfl
@[simp] theorem setSlot_freeChoices (s : State) (i : SlotId) (v : Slot) : (s.setSlot i v).freeChoices = s.freeChoices := rfl
@[simp] theorem setSlot_pending (s : State) (i : SlotId) (v : Slot) : (s.setSlot i v).pending = s.pending := rfl
@[simp] theorem setSlot_slotPolicy (s : State) (i : SlotId) (v : Slot) (j : SlotId) : (s.setSlot i v).slotPolicy j = s.slotPolicy j := rfl

/-! ### `modSlot` -/

@[simp] theorem modSlot_inReset (s : State) (i : SlotId) (g : Slot → Slot) : (s.modSlot i g).inReset = s.inReset := rfl
@[simp] theorem modSlot_portF (s : State) (i : SlotId) (g : Slot → Slot) : (s.modSlot i g).portF = s.portF := rfl
@[simp] theorem modSlot_portT (s : State) (i : SlotId) (g : Slot → Slot) : (s.modSlot i g).portT = s.portT := rfl
@[simp] theorem modSlot_originQueue (s : State) (i : SlotId) (g : Slot → Slot) : (s.modSlot i g).originQueue = s.originQueue := rfl
@[simp] theorem modSlot_originDiscards (s : State) (i : SlotId) (g : Slot → Slot) : (s.modSlot i g).originDiscards = s.originDiscards := rfl
@[simp] theorem modSlot_releaseSlot (s : State) (i : SlotId) (g : Slot → Slot) : (s.modSlot i g).releaseSlot = s.releaseSlot := rfl
@[simp] theorem modSlot_holdConsumed (s : State) (i : SlotId) (g : Slot → Slot) : (s.modSlot i g).holdConsumed = s.holdConsumed := rfl
@[simp] theorem modSlot_sorter (s : State) (i : SlotId) (g : Slot → Slot) : (s.modSlot i g).sorter = s.sorter := rfl
@[simp] theorem modSlot_lostDone (s : State) (i : SlotId) (g : Slot → Slot) : (s.modSlot i g).lostDone = s.lostDone := rfl
@[simp] theorem modSlot_sched (s : State) (i : SlotId) (g : Slot → Slot) : (s.modSlot i g).sched = s.sched := rfl
@[simp] theorem modSlot_tracker (s : State) (i : SlotId) (g : Slot → Slot) : (s.modSlot i g).tracker = s.tracker := rfl
@[simp] theorem modSlot_monitor (s : State) (i : SlotId) (g : Slot → Slot) : (s.modSlot i g).monitor = s.monitor := rfl
@[simp] theorem modSlot_pace (s : State) (i : SlotId) (g : Slot → Slot) : (s.modSlot i g).pace = s.pace := rfl
@[simp] theorem modSlot_spool (s : State) (i : SlotId) (g : Slot → Slot) : (s.modSlot i g).spool = s.spool := rfl
@[simp] theorem modSlot_policy (s : State) (i : SlotId) (g : Slot → Slot) : (s.modSlot i g).policy = s.policy := rfl
@[simp] theorem modSlot_agent (s : State) (i : SlotId) (g : Slot → Slot) : (s.modSlot i g).agent = s.agent := rfl
@[simp] theorem modSlot_freeChoices (s : State) (i : SlotId) (g : Slot → Slot) : (s.modSlot i g).freeChoices = s.freeChoices := rfl
@[simp] theorem modSlot_pending (s : State) (i : SlotId) (g : Slot → Slot) : (s.modSlot i g).pending = s.pending := rfl
@[simp] theorem modSlot_slotPolicy (s : State) (i : SlotId) (g : Slot → Slot) (j : SlotId) : (s.modSlot i g).slotPolicy j = s.slotPolicy j := rfl

/-! ### `mapSlots` -/

@[simp] theorem mapSlots_inReset (s : State) (g : SlotId → Slot → Slot) : (s.mapSlots g).inReset = s.inReset := rfl
@[simp] theorem mapSlots_portF (s : State) (g : SlotId → Slot → Slot) : (s.mapSlots g).portF = s.portF := rfl
@[simp] theorem mapSlots_portT (s : State) (g : SlotId → Slot → Slot) : (s.mapSlots g).portT = s.portT := rfl
@[simp] theorem mapSlots_originQueue (s : State) (g : SlotId → Slot → Slot) : (s.mapSlots g).originQueue = s.originQueue := rfl
@[simp] theorem mapSlots_originDiscards (s : State) (g : SlotId → Slot → Slot) : (s.mapSlots g).originDiscards = s.originDiscards := rfl
@[simp] theorem mapSlots_releaseSlot (s : State) (g : SlotId → Slot → Slot) : (s.mapSlots g).releaseSlot = s.releaseSlot := rfl
@[simp] theorem mapSlots_holdConsumed (s : State) (g : SlotId → Slot → Slot) : (s.mapSlots g).holdConsumed = s.holdConsumed := rfl
@[simp] theorem mapSlots_sorter (s : State) (g : SlotId → Slot → Slot) : (s.mapSlots g).sorter = s.sorter := rfl
@[simp] theorem mapSlots_lostDone (s : State) (g : SlotId → Slot → Slot) : (s.mapSlots g).lostDone = s.lostDone := rfl
@[simp] theorem mapSlots_sched (s : State) (g : SlotId → Slot → Slot) : (s.mapSlots g).sched = s.sched := rfl
@[simp] theorem mapSlots_tracker (s : State) (g : SlotId → Slot → Slot) : (s.mapSlots g).tracker = s.tracker := rfl
@[simp] theorem mapSlots_monitor (s : State) (g : SlotId → Slot → Slot) : (s.mapSlots g).monitor = s.monitor := rfl
@[simp] theorem mapSlots_pace (s : State) (g : SlotId → Slot → Slot) : (s.mapSlots g).pace = s.pace := rfl
@[simp] theorem mapSlots_spool (s : State) (g : SlotId → Slot → Slot) : (s.mapSlots g).spool = s.spool := rfl
@[simp] theorem mapSlots_policy (s : State) (g : SlotId → Slot → Slot) : (s.mapSlots g).policy = s.policy := rfl
@[simp] theorem mapSlots_agent (s : State) (g : SlotId → Slot → Slot) : (s.mapSlots g).agent = s.agent := rfl
@[simp] theorem mapSlots_freeChoices (s : State) (g : SlotId → Slot → Slot) : (s.mapSlots g).freeChoices = s.freeChoices := rfl
@[simp] theorem mapSlots_pending (s : State) (g : SlotId → Slot → Slot) : (s.mapSlots g).pending = s.pending := rfl
@[simp] theorem mapSlots_slotPolicy (s : State) (g : SlotId → Slot → Slot) (j : SlotId) : (s.mapSlots g).slotPolicy j = s.slotPolicy j := rfl

/-! ### `countSlot` -/

@[simp] theorem countSlot_inReset (s : State) (i : SlotId) (g : SlotCounters → SlotCounters) : (s.countSlot i g).inReset = s.inReset := rfl
@[simp] theorem countSlot_portF (s : State) (i : SlotId) (g : SlotCounters → SlotCounters) : (s.countSlot i g).portF = s.portF := rfl
@[simp] theorem countSlot_portT (s : State) (i : SlotId) (g : SlotCounters → SlotCounters) : (s.countSlot i g).portT = s.portT := rfl
@[simp] theorem countSlot_originQueue (s : State) (i : SlotId) (g : SlotCounters → SlotCounters) : (s.countSlot i g).originQueue = s.originQueue := rfl
@[simp] theorem countSlot_originDiscards (s : State) (i : SlotId) (g : SlotCounters → SlotCounters) : (s.countSlot i g).originDiscards = s.originDiscards := rfl
@[simp] theorem countSlot_releaseSlot (s : State) (i : SlotId) (g : SlotCounters → SlotCounters) : (s.countSlot i g).releaseSlot = s.releaseSlot := rfl
@[simp] theorem countSlot_holdConsumed (s : State) (i : SlotId) (g : SlotCounters → SlotCounters) : (s.countSlot i g).holdConsumed = s.holdConsumed := rfl
@[simp] theorem countSlot_sorter (s : State) (i : SlotId) (g : SlotCounters → SlotCounters) : (s.countSlot i g).sorter = s.sorter := rfl
@[simp] theorem countSlot_lostDone (s : State) (i : SlotId) (g : SlotCounters → SlotCounters) : (s.countSlot i g).lostDone = s.lostDone := rfl
@[simp] theorem countSlot_sched (s : State) (i : SlotId) (g : SlotCounters → SlotCounters) : (s.countSlot i g).sched = s.sched := rfl
@[simp] theorem countSlot_tracker (s : State) (i : SlotId) (g : SlotCounters → SlotCounters) : (s.countSlot i g).tracker = s.tracker := rfl
@[simp] theorem countSlot_monitor (s : State) (i : SlotId) (g : SlotCounters → SlotCounters) : (s.countSlot i g).monitor = s.monitor := rfl
@[simp] theorem countSlot_pace (s : State) (i : SlotId) (g : SlotCounters → SlotCounters) : (s.countSlot i g).pace = s.pace := rfl
@[simp] theorem countSlot_spool (s : State) (i : SlotId) (g : SlotCounters → SlotCounters) : (s.countSlot i g).spool = s.spool := rfl
@[simp] theorem countSlot_policy (s : State) (i : SlotId) (g : SlotCounters → SlotCounters) : (s.countSlot i g).policy = s.policy := rfl
@[simp] theorem countSlot_agent (s : State) (i : SlotId) (g : SlotCounters → SlotCounters) : (s.countSlot i g).agent = s.agent := rfl
@[simp] theorem countSlot_freeChoices (s : State) (i : SlotId) (g : SlotCounters → SlotCounters) : (s.countSlot i g).freeChoices = s.freeChoices := rfl
@[simp] theorem countSlot_pending (s : State) (i : SlotId) (g : SlotCounters → SlotCounters) : (s.countSlot i g).pending = s.pending := rfl
@[simp] theorem countSlot_slotPolicy (s : State) (i : SlotId) (g : SlotCounters → SlotCounters) (j : SlotId) : (s.countSlot i g).slotPolicy j = s.slotPolicy j := rfl

/-! ### `modSpool` -/

@[simp] theorem modSpool_inReset (s : State) (g : Spool → Spool) : (s.modSpool g).inReset = s.inReset := rfl
@[simp] theorem modSpool_portF (s : State) (g : Spool → Spool) : (s.modSpool g).portF = s.portF := rfl
@[simp] theorem modSpool_portT (s : State) (g : Spool → Spool) : (s.modSpool g).portT = s.portT := rfl
@[simp] theorem modSpool_originQueue (s : State) (g : Spool → Spool) : (s.modSpool g).originQueue = s.originQueue := rfl
@[simp] theorem modSpool_originDiscards (s : State) (g : Spool → Spool) : (s.modSpool g).originDiscards = s.originDiscards := rfl
@[simp] theorem modSpool_releaseSlot (s : State) (g : Spool → Spool) : (s.modSpool g).releaseSlot = s.releaseSlot := rfl
@[simp] theorem modSpool_holdConsumed (s : State) (g : Spool → Spool) : (s.modSpool g).holdConsumed = s.holdConsumed := rfl
@[simp] theorem modSpool_sorter (s : State) (g : Spool → Spool) : (s.modSpool g).sorter = s.sorter := rfl
@[simp] theorem modSpool_slots (s : State) (g : Spool → Spool) : (s.modSpool g).slots = s.slots := rfl
@[simp] theorem modSpool_lostDone (s : State) (g : Spool → Spool) : (s.modSpool g).lostDone = s.lostDone := rfl
@[simp] theorem modSpool_sched (s : State) (g : Spool → Spool) : (s.modSpool g).sched = s.sched := rfl
@[simp] theorem modSpool_tracker (s : State) (g : Spool → Spool) : (s.modSpool g).tracker = s.tracker := rfl
@[simp] theorem modSpool_monitor (s : State) (g : Spool → Spool) : (s.modSpool g).monitor = s.monitor := rfl
@[simp] theorem modSpool_pace (s : State) (g : Spool → Spool) : (s.modSpool g).pace = s.pace := rfl
@[simp] theorem modSpool_policy (s : State) (g : Spool → Spool) : (s.modSpool g).policy = s.policy := rfl
@[simp] theorem modSpool_agent (s : State) (g : Spool → Spool) : (s.modSpool g).agent = s.agent := rfl
@[simp] theorem modSpool_freeChoices (s : State) (g : Spool → Spool) : (s.modSpool g).freeChoices = s.freeChoices := rfl
@[simp] theorem modSpool_pending (s : State) (g : Spool → Spool) : (s.modSpool g).pending = s.pending := rfl
@[simp] theorem modSpool_slot (s : State) (g : Spool → Spool) (j : SlotId) : (s.modSpool g).slot j = s.slot j := rfl
@[simp] theorem modSpool_slotPolicy (s : State) (g : Spool → Spool) (j : SlotId) : (s.modSpool g).slotPolicy j = s.slotPolicy j := rfl

/-! ### `modMonitor` -/

@[simp] theorem modMonitor_inReset (s : State) (g : Monitor → Monitor) : (s.modMonitor g).inReset = s.inReset := rfl
@[simp] theorem modMonitor_portF (s : State) (g : Monitor → Monitor) : (s.modMonitor g).portF = s.portF := rfl
@[simp] theorem modMonitor_portT (s : State) (g : Monitor → Monitor) : (s.modMonitor g).portT = s.portT := rfl
@[simp] theorem modMonitor_originQueue (s : State) (g : Monitor → Monitor) : (s.modMonitor g).originQueue = s.originQueue := rfl
@[simp] theorem modMonitor_originDiscards (s : State) (g : Monitor → Monitor) : (s.modMonitor g).originDiscards = s.originDiscards := rfl
@[simp] theorem modMonitor_releaseSlot (s : State) (g : Monitor → Monitor) : (s.modMonitor g).releaseSlot = s.releaseSlot := rfl
@[simp] theorem modMonitor_holdConsumed (s : State) (g : Monitor → Monitor) : (s.modMonitor g).holdConsumed = s.holdConsumed := rfl
@[simp] theorem modMonitor_sorter (s : State) (g : Monitor → Monitor) : (s.modMonitor g).sorter = s.sorter := rfl
@[simp] theorem modMonitor_slots (s : State) (g : Monitor → Monitor) : (s.modMonitor g).slots = s.slots := rfl
@[simp] theorem modMonitor_lostDone (s : State) (g : Monitor → Monitor) : (s.modMonitor g).lostDone = s.lostDone := rfl
@[simp] theorem modMonitor_sched (s : State) (g : Monitor → Monitor) : (s.modMonitor g).sched = s.sched := rfl
@[simp] theorem modMonitor_tracker (s : State) (g : Monitor → Monitor) : (s.modMonitor g).tracker = s.tracker := rfl
@[simp] theorem modMonitor_pace (s : State) (g : Monitor → Monitor) : (s.modMonitor g).pace = s.pace := rfl
@[simp] theorem modMonitor_spool (s : State) (g : Monitor → Monitor) : (s.modMonitor g).spool = s.spool := rfl
@[simp] theorem modMonitor_policy (s : State) (g : Monitor → Monitor) : (s.modMonitor g).policy = s.policy := rfl
@[simp] theorem modMonitor_agent (s : State) (g : Monitor → Monitor) : (s.modMonitor g).agent = s.agent := rfl
@[simp] theorem modMonitor_freeChoices (s : State) (g : Monitor → Monitor) : (s.modMonitor g).freeChoices = s.freeChoices := rfl
@[simp] theorem modMonitor_pending (s : State) (g : Monitor → Monitor) : (s.modMonitor g).pending = s.pending := rfl
@[simp] theorem modMonitor_slot (s : State) (g : Monitor → Monitor) (j : SlotId) : (s.modMonitor g).slot j = s.slot j := rfl
@[simp] theorem modMonitor_slotPolicy (s : State) (g : Monitor → Monitor) (j : SlotId) : (s.modMonitor g).slotPolicy j = s.slotPolicy j := rfl

/-! ### `modPace` -/

@[simp] theorem modPace_inReset (s : State) (g : PaceBank → PaceBank) : (s.modPace g).inReset = s.inReset := rfl
@[simp] theorem modPace_portF (s : State) (g : PaceBank → PaceBank) : (s.modPace g).portF = s.portF := rfl
@[simp] theorem modPace_portT (s : State) (g : PaceBank → PaceBank) : (s.modPace g).portT = s.portT := rfl
@[simp] theorem modPace_originQueue (s : State) (g : PaceBank → PaceBank) : (s.modPace g).originQueue = s.originQueue := rfl
@[simp] theorem modPace_originDiscards (s : State) (g : PaceBank → PaceBank) : (s.modPace g).originDiscards = s.originDiscards := rfl
@[simp] theorem modPace_releaseSlot (s : State) (g : PaceBank → PaceBank) : (s.modPace g).releaseSlot = s.releaseSlot := rfl
@[simp] theorem modPace_holdConsumed (s : State) (g : PaceBank → PaceBank) : (s.modPace g).holdConsumed = s.holdConsumed := rfl
@[simp] theorem modPace_sorter (s : State) (g : PaceBank → PaceBank) : (s.modPace g).sorter = s.sorter := rfl
@[simp] theorem modPace_slots (s : State) (g : PaceBank → PaceBank) : (s.modPace g).slots = s.slots := rfl
@[simp] theorem modPace_lostDone (s : State) (g : PaceBank → PaceBank) : (s.modPace g).lostDone = s.lostDone := rfl
@[simp] theorem modPace_sched (s : State) (g : PaceBank → PaceBank) : (s.modPace g).sched = s.sched := rfl
@[simp] theorem modPace_tracker (s : State) (g : PaceBank → PaceBank) : (s.modPace g).tracker = s.tracker := rfl
@[simp] theorem modPace_monitor (s : State) (g : PaceBank → PaceBank) : (s.modPace g).monitor = s.monitor := rfl
@[simp] theorem modPace_spool (s : State) (g : PaceBank → PaceBank) : (s.modPace g).spool = s.spool := rfl
@[simp] theorem modPace_policy (s : State) (g : PaceBank → PaceBank) : (s.modPace g).policy = s.policy := rfl
@[simp] theorem modPace_agent (s : State) (g : PaceBank → PaceBank) : (s.modPace g).agent = s.agent := rfl
@[simp] theorem modPace_freeChoices (s : State) (g : PaceBank → PaceBank) : (s.modPace g).freeChoices = s.freeChoices := rfl
@[simp] theorem modPace_pending (s : State) (g : PaceBank → PaceBank) : (s.modPace g).pending = s.pending := rfl
@[simp] theorem modPace_slot (s : State) (g : PaceBank → PaceBank) (j : SlotId) : (s.modPace g).slot j = s.slot j := rfl
@[simp] theorem modPace_slotPolicy (s : State) (g : PaceBank → PaceBank) (j : SlotId) : (s.modPace g).slotPolicy j = s.slotPolicy j := rfl

/-! ### `modSorter` -/

@[simp] theorem modSorter_inReset (s : State) (g : Sorter → Sorter) : (s.modSorter g).inReset = s.inReset := rfl
@[simp] theorem modSorter_portF (s : State) (g : Sorter → Sorter) : (s.modSorter g).portF = s.portF := rfl
@[simp] theorem modSorter_portT (s : State) (g : Sorter → Sorter) : (s.modSorter g).portT = s.portT := rfl
@[simp] theorem modSorter_originQueue (s : State) (g : Sorter → Sorter) : (s.modSorter g).originQueue = s.originQueue := rfl
@[simp] theorem modSorter_originDiscards (s : State) (g : Sorter → Sorter) : (s.modSorter g).originDiscards = s.originDiscards := rfl
@[simp] theorem modSorter_releaseSlot (s : State) (g : Sorter → Sorter) : (s.modSorter g).releaseSlot = s.releaseSlot := rfl
@[simp] theorem modSorter_holdConsumed (s : State) (g : Sorter → Sorter) : (s.modSorter g).holdConsumed = s.holdConsumed := rfl
@[simp] theorem modSorter_slots (s : State) (g : Sorter → Sorter) : (s.modSorter g).slots = s.slots := rfl
@[simp] theorem modSorter_lostDone (s : State) (g : Sorter → Sorter) : (s.modSorter g).lostDone = s.lostDone := rfl
@[simp] theorem modSorter_sched (s : State) (g : Sorter → Sorter) : (s.modSorter g).sched = s.sched := rfl
@[simp] theorem modSorter_tracker (s : State) (g : Sorter → Sorter) : (s.modSorter g).tracker = s.tracker := rfl
@[simp] theorem modSorter_monitor (s : State) (g : Sorter → Sorter) : (s.modSorter g).monitor = s.monitor := rfl
@[simp] theorem modSorter_pace (s : State) (g : Sorter → Sorter) : (s.modSorter g).pace = s.pace := rfl
@[simp] theorem modSorter_spool (s : State) (g : Sorter → Sorter) : (s.modSorter g).spool = s.spool := rfl
@[simp] theorem modSorter_policy (s : State) (g : Sorter → Sorter) : (s.modSorter g).policy = s.policy := rfl
@[simp] theorem modSorter_agent (s : State) (g : Sorter → Sorter) : (s.modSorter g).agent = s.agent := rfl
@[simp] theorem modSorter_freeChoices (s : State) (g : Sorter → Sorter) : (s.modSorter g).freeChoices = s.freeChoices := rfl
@[simp] theorem modSorter_pending (s : State) (g : Sorter → Sorter) : (s.modSorter g).pending = s.pending := rfl
@[simp] theorem modSorter_slot (s : State) (g : Sorter → Sorter) (j : SlotId) : (s.modSorter g).slot j = s.slot j := rfl
@[simp] theorem modSorter_slotPolicy (s : State) (g : Sorter → Sorter) (j : SlotId) : (s.modSorter g).slotPolicy j = s.slotPolicy j := rfl

/-! ### `modStaged` -/

@[simp] theorem modStaged_inReset (s : State) (g : Image → Image) : (s.modStaged g).inReset = s.inReset := rfl
@[simp] theorem modStaged_portF (s : State) (g : Image → Image) : (s.modStaged g).portF = s.portF := rfl
@[simp] theorem modStaged_portT (s : State) (g : Image → Image) : (s.modStaged g).portT = s.portT := rfl
@[simp] theorem modStaged_originQueue (s : State) (g : Image → Image) : (s.modStaged g).originQueue = s.originQueue := rfl
@[simp] theorem modStaged_originDiscards (s : State) (g : Image → Image) : (s.modStaged g).originDiscards = s.originDiscards := rfl
@[simp] theorem modStaged_releaseSlot (s : State) (g : Image → Image) : (s.modStaged g).releaseSlot = s.releaseSlot := rfl
@[simp] theorem modStaged_holdConsumed (s : State) (g : Image → Image) : (s.modStaged g).holdConsumed = s.holdConsumed := rfl
@[simp] theorem modStaged_sorter (s : State) (g : Image → Image) : (s.modStaged g).sorter = s.sorter := rfl
@[simp] theorem modStaged_slots (s : State) (g : Image → Image) : (s.modStaged g).slots = s.slots := rfl
@[simp] theorem modStaged_lostDone (s : State) (g : Image → Image) : (s.modStaged g).lostDone = s.lostDone := rfl
@[simp] theorem modStaged_sched (s : State) (g : Image → Image) : (s.modStaged g).sched = s.sched := rfl
@[simp] theorem modStaged_tracker (s : State) (g : Image → Image) : (s.modStaged g).tracker = s.tracker := rfl
@[simp] theorem modStaged_monitor (s : State) (g : Image → Image) : (s.modStaged g).monitor = s.monitor := rfl
@[simp] theorem modStaged_pace (s : State) (g : Image → Image) : (s.modStaged g).pace = s.pace := rfl
@[simp] theorem modStaged_spool (s : State) (g : Image → Image) : (s.modStaged g).spool = s.spool := rfl
@[simp] theorem modStaged_agent (s : State) (g : Image → Image) : (s.modStaged g).agent = s.agent := rfl
@[simp] theorem modStaged_freeChoices (s : State) (g : Image → Image) : (s.modStaged g).freeChoices = s.freeChoices := rfl
@[simp] theorem modStaged_pending (s : State) (g : Image → Image) : (s.modStaged g).pending = s.pending := rfl
@[simp] theorem modStaged_slot (s : State) (g : Image → Image) (j : SlotId) : (s.modStaged g).slot j = s.slot j := rfl

/-! ### `pushOrigin` -/

@[simp] theorem pushOrigin_inReset (s : State) (f : Frame) : (pushOrigin f s).inReset = s.inReset := rfl
@[simp] theorem pushOrigin_portF (s : State) (f : Frame) : (pushOrigin f s).portF = s.portF := rfl
@[simp] theorem pushOrigin_portT (s : State) (f : Frame) : (pushOrigin f s).portT = s.portT := rfl
@[simp] theorem pushOrigin_originDiscards (s : State) (f : Frame) : (pushOrigin f s).originDiscards = s.originDiscards := rfl
@[simp] theorem pushOrigin_releaseSlot (s : State) (f : Frame) : (pushOrigin f s).releaseSlot = s.releaseSlot := rfl
@[simp] theorem pushOrigin_holdConsumed (s : State) (f : Frame) : (pushOrigin f s).holdConsumed = s.holdConsumed := rfl
@[simp] theorem pushOrigin_sorter (s : State) (f : Frame) : (pushOrigin f s).sorter = s.sorter := rfl
@[simp] theorem pushOrigin_slots (s : State) (f : Frame) : (pushOrigin f s).slots = s.slots := rfl
@[simp] theorem pushOrigin_lostDone (s : State) (f : Frame) : (pushOrigin f s).lostDone = s.lostDone := rfl
@[simp] theorem pushOrigin_sched (s : State) (f : Frame) : (pushOrigin f s).sched = s.sched := rfl
@[simp] theorem pushOrigin_tracker (s : State) (f : Frame) : (pushOrigin f s).tracker = s.tracker := rfl
@[simp] theorem pushOrigin_monitor (s : State) (f : Frame) : (pushOrigin f s).monitor = s.monitor := rfl
@[simp] theorem pushOrigin_pace (s : State) (f : Frame) : (pushOrigin f s).pace = s.pace := rfl
@[simp] theorem pushOrigin_spool (s : State) (f : Frame) : (pushOrigin f s).spool = s.spool := rfl
@[simp] theorem pushOrigin_policy (s : State) (f : Frame) : (pushOrigin f s).policy = s.policy := rfl
@[simp] theorem pushOrigin_agent (s : State) (f : Frame) : (pushOrigin f s).agent = s.agent := rfl
@[simp] theorem pushOrigin_freeChoices (s : State) (f : Frame) : (pushOrigin f s).freeChoices = s.freeChoices := rfl
@[simp] theorem pushOrigin_pending (s : State) (f : Frame) : (pushOrigin f s).pending = s.pending := rfl
@[simp] theorem pushOrigin_slot (s : State) (f : Frame) (j : SlotId) : (pushOrigin f s).slot j = s.slot j := rfl
@[simp] theorem pushOrigin_slotPolicy (s : State) (f : Frame) (j : SlotId) : (pushOrigin f s).slotPolicy j = s.slotPolicy j := rfl

/-! ### `setHoldTicks` -/

@[simp] theorem setHoldTicks_inReset (s : State) (t : Option Nat) : (setHoldTicks t s).inReset = s.inReset := rfl
@[simp] theorem setHoldTicks_portF (s : State) (t : Option Nat) : (setHoldTicks t s).portF = s.portF := rfl
@[simp] theorem setHoldTicks_portT (s : State) (t : Option Nat) : (setHoldTicks t s).portT = s.portT := rfl
@[simp] theorem setHoldTicks_originQueue (s : State) (t : Option Nat) : (setHoldTicks t s).originQueue = s.originQueue := rfl
@[simp] theorem setHoldTicks_originDiscards (s : State) (t : Option Nat) : (setHoldTicks t s).originDiscards = s.originDiscards := rfl
@[simp] theorem setHoldTicks_releaseSlot (s : State) (t : Option Nat) : (setHoldTicks t s).releaseSlot = s.releaseSlot := rfl
@[simp] theorem setHoldTicks_holdConsumed (s : State) (t : Option Nat) : (setHoldTicks t s).holdConsumed = s.holdConsumed := rfl
@[simp] theorem setHoldTicks_sorter (s : State) (t : Option Nat) : (setHoldTicks t s).sorter = s.sorter := rfl
@[simp] theorem setHoldTicks_slots (s : State) (t : Option Nat) : (setHoldTicks t s).slots = s.slots := rfl
@[simp] theorem setHoldTicks_lostDone (s : State) (t : Option Nat) : (setHoldTicks t s).lostDone = s.lostDone := rfl
@[simp] theorem setHoldTicks_tracker (s : State) (t : Option Nat) : (setHoldTicks t s).tracker = s.tracker := rfl
@[simp] theorem setHoldTicks_monitor (s : State) (t : Option Nat) : (setHoldTicks t s).monitor = s.monitor := rfl
@[simp] theorem setHoldTicks_pace (s : State) (t : Option Nat) : (setHoldTicks t s).pace = s.pace := rfl
@[simp] theorem setHoldTicks_spool (s : State) (t : Option Nat) : (setHoldTicks t s).spool = s.spool := rfl
@[simp] theorem setHoldTicks_policy (s : State) (t : Option Nat) : (setHoldTicks t s).policy = s.policy := rfl
@[simp] theorem setHoldTicks_agent (s : State) (t : Option Nat) : (setHoldTicks t s).agent = s.agent := rfl
@[simp] theorem setHoldTicks_freeChoices (s : State) (t : Option Nat) : (setHoldTicks t s).freeChoices = s.freeChoices := rfl
@[simp] theorem setHoldTicks_pending (s : State) (t : Option Nat) : (setHoldTicks t s).pending = s.pending := rfl
@[simp] theorem setHoldTicks_slot (s : State) (t : Option Nat) (j : SlotId) : (setHoldTicks t s).slot j = s.slot j := rfl
@[simp] theorem setHoldTicks_slotPolicy (s : State) (t : Option Nat) (j : SlotId) : (setHoldTicks t s).slotPolicy j = s.slotPolicy j := rfl

/-! ### `countReceived` -/

@[simp] theorem countReceived_inReset (s : State) (p : Port) : (countReceived p s).inReset = s.inReset := by cases p <;> rfl
@[simp] theorem countReceived_originQueue (s : State) (p : Port) : (countReceived p s).originQueue = s.originQueue := by cases p <;> rfl
@[simp] theorem countReceived_originDiscards (s : State) (p : Port) : (countReceived p s).originDiscards = s.originDiscards := by cases p <;> rfl
@[simp] theorem countReceived_releaseSlot (s : State) (p : Port) : (countReceived p s).releaseSlot = s.releaseSlot := by cases p <;> rfl
@[simp] theorem countReceived_holdConsumed (s : State) (p : Port) : (countReceived p s).holdConsumed = s.holdConsumed := by cases p <;> rfl
@[simp] theorem countReceived_sorter (s : State) (p : Port) : (countReceived p s).sorter = s.sorter := by cases p <;> rfl
@[simp] theorem countReceived_slots (s : State) (p : Port) : (countReceived p s).slots = s.slots := by cases p <;> rfl
@[simp] theorem countReceived_lostDone (s : State) (p : Port) : (countReceived p s).lostDone = s.lostDone := by cases p <;> rfl
@[simp] theorem countReceived_sched (s : State) (p : Port) : (countReceived p s).sched = s.sched := by cases p <;> rfl
@[simp] theorem countReceived_tracker (s : State) (p : Port) : (countReceived p s).tracker = s.tracker := by cases p <;> rfl
@[simp] theorem countReceived_monitor (s : State) (p : Port) : (countReceived p s).monitor = s.monitor := by cases p <;> rfl
@[simp] theorem countReceived_pace (s : State) (p : Port) : (countReceived p s).pace = s.pace := by cases p <;> rfl
@[simp] theorem countReceived_spool (s : State) (p : Port) : (countReceived p s).spool = s.spool := by cases p <;> rfl
@[simp] theorem countReceived_policy (s : State) (p : Port) : (countReceived p s).policy = s.policy := by cases p <;> rfl
@[simp] theorem countReceived_agent (s : State) (p : Port) : (countReceived p s).agent = s.agent := by cases p <;> rfl
@[simp] theorem countReceived_freeChoices (s : State) (p : Port) : (countReceived p s).freeChoices = s.freeChoices := by cases p <;> rfl
@[simp] theorem countReceived_pending (s : State) (p : Port) : (countReceived p s).pending = s.pending := by cases p <;> rfl
@[simp] theorem countReceived_slot (s : State) (p : Port) (j : SlotId) : (countReceived p s).slot j = s.slot j := by cases p <;> rfl
@[simp] theorem countReceived_slotPolicy (s : State) (p : Port) (j : SlotId) : (countReceived p s).slotPolicy j = s.slotPolicy j := by cases p <;> rfl

/-! ### `modPort` -/

@[simp] theorem modPort_inReset (s : State) (p : Port) (g : PortSide → PortSide) : (s.modPort p g).inReset = s.inReset := by cases p <;> rfl
@[simp] theorem modPort_originQueue (s : State) (p : Port) (g : PortSide → PortSide) : (s.modPort p g).originQueue = s.originQueue := by cases p <;> rfl
@[simp] theorem modPort_originDiscards (s : State) (p : Port) (g : PortSide → PortSide) : (s.modPort p g).originDiscards = s.originDiscards := by cases p <;> rfl
@[simp] theorem modPort_releaseSlot (s : State) (p : Port) (g : PortSide → PortSide) : (s.modPort p g).releaseSlot = s.releaseSlot := by cases p <;> rfl
@[simp] theorem modPort_holdConsumed (s : State) (p : Port) (g : PortSide → PortSide) : (s.modPort p g).holdConsumed = s.holdConsumed := by cases p <;> rfl
@[simp] theorem modPort_sorter (s : State) (p : Port) (g : PortSide → PortSide) : (s.modPort p g).sorter = s.sorter := by cases p <;> rfl
@[simp] theorem modPort_slots (s : State) (p : Port) (g : PortSide → PortSide) : (s.modPort p g).slots = s.slots := by cases p <;> rfl
@[simp] theorem modPort_lostDone (s : State) (p : Port) (g : PortSide → PortSide) : (s.modPort p g).lostDone = s.lostDone := by cases p <;> rfl
@[simp] theorem modPort_sched (s : State) (p : Port) (g : PortSide → PortSide) : (s.modPort p g).sched = s.sched := by cases p <;> rfl
@[simp] theorem modPort_tracker (s : State) (p : Port) (g : PortSide → PortSide) : (s.modPort p g).tracker = s.tracker := by cases p <;> rfl
@[simp] theorem modPort_monitor (s : State) (p : Port) (g : PortSide → PortSide) : (s.modPort p g).monitor = s.monitor := by cases p <;> rfl
@[simp] theorem modPort_pace (s : State) (p : Port) (g : PortSide → PortSide) : (s.modPort p g).pace = s.pace := by cases p <;> rfl
@[simp] theorem modPort_spool (s : State) (p : Port) (g : PortSide → PortSide) : (s.modPort p g).spool = s.spool := by cases p <;> rfl
@[simp] theorem modPort_policy (s : State) (p : Port) (g : PortSide → PortSide) : (s.modPort p g).policy = s.policy := by cases p <;> rfl
@[simp] theorem modPort_agent (s : State) (p : Port) (g : PortSide → PortSide) : (s.modPort p g).agent = s.agent := by cases p <;> rfl
@[simp] theorem modPort_freeChoices (s : State) (p : Port) (g : PortSide → PortSide) : (s.modPort p g).freeChoices = s.freeChoices := by cases p <;> rfl
@[simp] theorem modPort_pending (s : State) (p : Port) (g : PortSide → PortSide) : (s.modPort p g).pending = s.pending := by cases p <;> rfl
@[simp] theorem modPort_slot (s : State) (p : Port) (g : PortSide → PortSide) (j : SlotId) : (s.modPort p g).slot j = s.slot j := by cases p <;> rfl
@[simp] theorem modPort_slotPolicy (s : State) (p : Port) (g : PortSide → PortSide) (j : SlotId) : (s.modPort p g).slotPolicy j = s.slotPolicy j := by cases p <;> rfl

/-! ### `modOpen` -/

@[simp] theorem modOpen_inReset (s : State) (k : ExchangeKey) (g : OpenRecord → OpenRecord) : (modOpen k g s).inReset = s.inReset := rfl
@[simp] theorem modOpen_portF (s : State) (k : ExchangeKey) (g : OpenRecord → OpenRecord) : (modOpen k g s).portF = s.portF := rfl
@[simp] theorem modOpen_portT (s : State) (k : ExchangeKey) (g : OpenRecord → OpenRecord) : (modOpen k g s).portT = s.portT := rfl
@[simp] theorem modOpen_originQueue (s : State) (k : ExchangeKey) (g : OpenRecord → OpenRecord) : (modOpen k g s).originQueue = s.originQueue := rfl
@[simp] theorem modOpen_originDiscards (s : State) (k : ExchangeKey) (g : OpenRecord → OpenRecord) : (modOpen k g s).originDiscards = s.originDiscards := rfl
@[simp] theorem modOpen_releaseSlot (s : State) (k : ExchangeKey) (g : OpenRecord → OpenRecord) : (modOpen k g s).releaseSlot = s.releaseSlot := rfl
@[simp] theorem modOpen_holdConsumed (s : State) (k : ExchangeKey) (g : OpenRecord → OpenRecord) : (modOpen k g s).holdConsumed = s.holdConsumed := rfl
@[simp] theorem modOpen_sorter (s : State) (k : ExchangeKey) (g : OpenRecord → OpenRecord) : (modOpen k g s).sorter = s.sorter := rfl
@[simp] theorem modOpen_slots (s : State) (k : ExchangeKey) (g : OpenRecord → OpenRecord) : (modOpen k g s).slots = s.slots := rfl
@[simp] theorem modOpen_lostDone (s : State) (k : ExchangeKey) (g : OpenRecord → OpenRecord) : (modOpen k g s).lostDone = s.lostDone := rfl
@[simp] theorem modOpen_sched (s : State) (k : ExchangeKey) (g : OpenRecord → OpenRecord) : (modOpen k g s).sched = s.sched := rfl
@[simp] theorem modOpen_monitor (s : State) (k : ExchangeKey) (g : OpenRecord → OpenRecord) : (modOpen k g s).monitor = s.monitor := rfl
@[simp] theorem modOpen_pace (s : State) (k : ExchangeKey) (g : OpenRecord → OpenRecord) : (modOpen k g s).pace = s.pace := rfl
@[simp] theorem modOpen_spool (s : State) (k : ExchangeKey) (g : OpenRecord → OpenRecord) : (modOpen k g s).spool = s.spool := rfl
@[simp] theorem modOpen_policy (s : State) (k : ExchangeKey) (g : OpenRecord → OpenRecord) : (modOpen k g s).policy = s.policy := rfl
@[simp] theorem modOpen_agent (s : State) (k : ExchangeKey) (g : OpenRecord → OpenRecord) : (modOpen k g s).agent = s.agent := rfl
@[simp] theorem modOpen_freeChoices (s : State) (k : ExchangeKey) (g : OpenRecord → OpenRecord) : (modOpen k g s).freeChoices = s.freeChoices := rfl
@[simp] theorem modOpen_pending (s : State) (k : ExchangeKey) (g : OpenRecord → OpenRecord) : (modOpen k g s).pending = s.pending := rfl
@[simp] theorem modOpen_slot (s : State) (k : ExchangeKey) (g : OpenRecord → OpenRecord) (j : SlotId) : (modOpen k g s).slot j = s.slot j := rfl
@[simp] theorem modOpen_slotPolicy (s : State) (k : ExchangeKey) (g : OpenRecord → OpenRecord) (j : SlotId) : (modOpen k g s).slotPolicy j = s.slotPolicy j := rfl

/-! ### `freeOpen` -/

@[simp] theorem freeOpen_inReset (s : State) (k : ExchangeKey) : (freeOpen k s).inReset = s.inReset := rfl
@[simp] theorem freeOpen_portF (s : State) (k : ExchangeKey) : (freeOpen k s).portF = s.portF := rfl
@[simp] theorem freeOpen_portT (s : State) (k : ExchangeKey) : (freeOpen k s).portT = s.portT := rfl
@[simp] theorem freeOpen_originQueue (s : State) (k : ExchangeKey) : (freeOpen k s).originQueue = s.originQueue := rfl
@[simp] theorem freeOpen_originDiscards (s : State) (k : ExchangeKey) : (freeOpen k s).originDiscards = s.originDiscards := rfl
@[simp] theorem freeOpen_releaseSlot (s : State) (k : ExchangeKey) : (freeOpen k s).releaseSlot = s.releaseSlot := rfl
@[simp] theorem freeOpen_holdConsumed (s : State) (k : ExchangeKey) : (freeOpen k s).holdConsumed = s.holdConsumed := rfl
@[simp] theorem freeOpen_sorter (s : State) (k : ExchangeKey) : (freeOpen k s).sorter = s.sorter := rfl
@[simp] theorem freeOpen_slots (s : State) (k : ExchangeKey) : (freeOpen k s).slots = s.slots := rfl
@[simp] theorem freeOpen_lostDone (s : State) (k : ExchangeKey) : (freeOpen k s).lostDone = s.lostDone := rfl
@[simp] theorem freeOpen_sched (s : State) (k : ExchangeKey) : (freeOpen k s).sched = s.sched := rfl
@[simp] theorem freeOpen_monitor (s : State) (k : ExchangeKey) : (freeOpen k s).monitor = s.monitor := rfl
@[simp] theorem freeOpen_pace (s : State) (k : ExchangeKey) : (freeOpen k s).pace = s.pace := rfl
@[simp] theorem freeOpen_spool (s : State) (k : ExchangeKey) : (freeOpen k s).spool = s.spool := rfl
@[simp] theorem freeOpen_policy (s : State) (k : ExchangeKey) : (freeOpen k s).policy = s.policy := rfl
@[simp] theorem freeOpen_agent (s : State) (k : ExchangeKey) : (freeOpen k s).agent = s.agent := rfl
@[simp] theorem freeOpen_freeChoices (s : State) (k : ExchangeKey) : (freeOpen k s).freeChoices = s.freeChoices := rfl
@[simp] theorem freeOpen_pending (s : State) (k : ExchangeKey) : (freeOpen k s).pending = s.pending := rfl
@[simp] theorem freeOpen_slot (s : State) (k : ExchangeKey) (j : SlotId) : (freeOpen k s).slot j = s.slot j := rfl
@[simp] theorem freeOpen_slotPolicy (s : State) (k : ExchangeKey) (j : SlotId) : (freeOpen k s).slotPolicy j = s.slotPolicy j := rfl

/-! ### What the updates write -/

@[simp] theorem modSpool_spool (s : State) (g : Spool → Spool) : (s.modSpool g).spool = g s.spool := rfl

@[simp] theorem modMonitor_monitor (s : State) (g : Monitor → Monitor) : (s.modMonitor g).monitor = g s.monitor := rfl

@[simp] theorem modPace_pace (s : State) (g : PaceBank → PaceBank) : (s.modPace g).pace = g s.pace := rfl

@[simp] theorem modSorter_sorter (s : State) (g : Sorter → Sorter) : (s.modSorter g).sorter = g s.sorter := rfl

@[simp] theorem modStaged_staged (s : State) (g : Image → Image) : (s.modStaged g).policy.staged = g s.policy.staged := rfl

@[simp] theorem modStaged_active (s : State) (g : Image → Image) : (s.modStaged g).policy.active = s.policy.active := rfl

@[simp] theorem pushOrigin_originQueue (s : State) (f : Frame) : (pushOrigin f s).originQueue = s.originQueue ++ [f] := rfl

@[simp] theorem modPort_port_self (s : State) (p : Port) (g : PortSide → PortSide) :
    (s.modPort p g).port p = g (s.port p) := by cases p <;> rfl

theorem modPort_port_other (s : State) (p q : Port) (g : PortSide → PortSide) (h : q ≠ p) :
    (s.modPort p g).port q = s.port q := by
  cases p <;> cases q <;> first | rfl | exact absurd rfl h

@[simp] theorem slot_setSlot_self (s : State) (i : SlotId) (v : Slot) : (s.setSlot i v).slot i = v := by
  simp [State.setSlot, State.slot]

theorem slot_setSlot_other (s : State) (i j : SlotId) (v : Slot) (h : j ≠ i) : (s.setSlot i v).slot j = s.slot j := by
  have hv : i.val ≠ j.val := fun e => h (Fin.ext e.symm)
  simp [State.setSlot, State.slot, Vector.getElem_set_ne, hv]

@[simp] theorem slot_modSlot_self (s : State) (i : SlotId) (g : Slot → Slot) : (s.modSlot i g).slot i = g (s.slot i) := by
  simp [State.modSlot]

theorem slot_modSlot_other (s : State) (i j : SlotId) (g : Slot → Slot) (h : j ≠ i) :
    (s.modSlot i g).slot j = s.slot j := slot_setSlot_other s i j _ h

/-- A slot after a change of slot `i`, in one equation. -/
theorem slot_modSlot (s : State) (i j : SlotId) (g : Slot → Slot) :
    (s.modSlot i g).slot j = if j = i then g (s.slot i) else s.slot j := by
  by_cases h : j = i
  · subst h; simp
  · simp [h, slot_modSlot_other]

@[simp] theorem slot_mapSlots (s : State) (g : SlotId → Slot → Slot) (j : SlotId) :
    (s.mapSlots g).slot j = g j (s.slot j) := by simp [State.mapSlots, State.slot]

@[simp] theorem setSlot_self (s : State) (i : SlotId) : s.setSlot i (s.slot i) = s := by
  have h : s.slots.set i.val (s.slot i) = s.slots := by simp [State.slot]
  simp [State.setSlot, h]

/-- Two states with the same slots and the same other fields are the same: slots are compared one by one. -/
theorem slots_ext (s t : State) (h : ∀ i, s.slot i = t.slot i) : s.slots = t.slots := by
  apply Vector.ext
  intro k hk
  exact h ⟨k, hk⟩

end Sys2Proof.Machine
end

