-- ==== Sys2Proof/Laws/Touch.lean ====
section
/-! SUPPORT. For each shared operation, the fields it can change, as one equation: the state after it is the state before it with
those fields replaced. Every other field is unchanged by rewriting with it. -/

namespace Sys2Proof.Machine

/-! ### Ports, origin queue, notices -/

theorem forward_touches (p : Port) (f : Frame) (s : State) :
    forward p f s = s.setPort p ((forward p f s).port p) := by cases p <;> rfl

theorem placeDone_touches (c : DoneCode) (f : Frame) (s : State) :
    placeDone c f s =
      { s with originQueue := (placeDone c f s).originQueue, lostDone := (placeDone c f s).lostDone } := by
  unfold placeDone; split <;> rfl

/-- A placement of a DONE, both ways. -/
theorem placeDone_cases (c : DoneCode) (f : Frame) (s : State) :
    (s.originQueue.length < 64 ∧ placeDone c f s = pushOrigin (buildDone s.transportType f c) s) ∨
      (64 ≤ s.originQueue.length ∧ placeDone c f s = { s with lostDone := countLostDone c s.lostDone }) := by
  unfold placeDone originHasSpace originCapacity
  by_cases h : s.originQueue.length < 64
  · left; simp [h]
  · right; simp [h]; omega

theorem noticeOnRoute_touches (r : NoticeRoute) (k : NoticeKind) (s : State) :
    noticeOnRoute r k s =
      { s with originQueue := (noticeOnRoute r k s).originQueue, agent := (noticeOnRoute r k s).agent } := by
  unfold noticeOnRoute; split
  · rfl
  · split
    · split <;> rfl
    · rfl

theorem raiseNotice_touches (k : NoticeKind) (s : State) :
    raiseNotice k s = { s with originQueue := (raiseNotice k s).originQueue, agent := (raiseNotice k s).agent } := by
  unfold raiseNotice; split
  · rfl
  · rw [noticeOnRoute_touches, noticeOnRoute_touches]

/-- A raise that finds its flag set changes nothing. -/
theorem raiseNotice_set (k : NoticeKind) (s : State) (h : noticeFlag s.agent.flags k = true) : raiseNotice k s = s := by
  simp [raiseNotice, h]

/-! ### Usage Spool -/

theorem putEntries_touches (es : List SpoolEntry) (s : State) :
    putEntries es s =
      { s with originQueue := (putEntries es s).originQueue, agent := (putEntries es s).agent
               spool := (putEntries es s).spool } := by
  unfold putEntries; simp only []; split
  · rw [raiseNotice_touches]; rfl
  · rfl

theorem freezeIfFull_touches (s : State) :
    freezeIfFull s =
      { s with originQueue := (freezeIfFull s).originQueue, agent := (freezeIfFull s).agent
               spool := (freezeIfFull s).spool } := by
  unfold freezeIfFull; split
  · rw [raiseNotice_touches]; rfl
  · rfl

theorem offerRecord_touches (e : SpoolEntry) (s : State) :
    (offerRecord e s).1 =
      { s with originQueue := (offerRecord e s).1.originQueue, agent := (offerRecord e s).1.agent
               spool := (offerRecord e s).1.spool } := by
  unfold offerRecord; split
  · rfl
  · rfl
  · split
    · simp only []; rw [freezeIfFull_touches, putEntries_touches]
    · simp only []; rw [raiseNotice_touches]; rfl
  · split
    · simp only []; rw [putEntries_touches]
    · simp only []; rw [putEntries_touches]

theorem takeTrigger_touches (i : Option SlotId) (c : Nat) (s : State) :
    takeTrigger i c s =
      { s with originQueue := (takeTrigger i c s).originQueue, agent := (takeTrigger i c s).agent
               spool := (takeTrigger i c s).spool } := by
  unfold takeTrigger; simp only []; rw [offerRecord_touches]; rfl

theorem offerTrigger_touches (i : Option SlotId) (c : Nat) (s : State) :
    offerTrigger i c s =
      { s with originQueue := (offerTrigger i c s).originQueue, agent := (offerTrigger i c s).agent
               spool := (offerTrigger i c s).spool } := by
  unfold offerTrigger; split
  · rw [takeTrigger_touches]
  · rfl

theorem offerEvent_touches (k : EventKind) (i : Option SlotId) (v : BitVec 32) (s : State) :
    offerEvent k i v s =
      { s with originQueue := (offerEvent k i v s).originQueue, agent := (offerEvent k i v s).agent
               spool := (offerEvent k i v s).spool } := by
  unfold offerEvent; simp only []; split
  · rw [offerTrigger_touches, offerRecord_touches]
  · rw [offerRecord_touches]

/-! ### Directory -/

theorem quarantine_touches (i : SlotId) (s : State) :
    quarantine i s =
      { s with originQueue := (quarantine i s).originQueue, agent := (quarantine i s).agent
               spool := (quarantine i s).spool, slots := (quarantine i s).slots } := by
  unfold quarantine; rw [raiseNotice_touches, offerEvent_touches]; rfl

theorem reportViolation_touches (i : SlotId) (s : State) :
    reportViolation i s =
      { s with originQueue := (reportViolation i s).originQueue, agent := (reportViolation i s).agent
               spool := (reportViolation i s).spool, slots := (reportViolation i s).slots } := by
  unfold reportViolation; split
  · rfl
  · simp only []; split
    · rw [quarantine_touches]; rfl
    · rfl

theorem completeDrain_touches (i : SlotId) (s : State) :
    completeDrain i s = { s with slots := (completeDrain i s).slots } := by
  unfold completeDrain; split <;> rfl

theorem decrementOutstanding_touches (i : SlotId) (s : State) :
    decrementOutstanding i s = { s with slots := (decrementOutstanding i s).slots } := by
  unfold decrementOutstanding; rw [completeDrain_touches]; rfl

/-! ### Scheduler -/

/-- What a decision does: nothing, or the release of an eligible head into the empty release slot (R71, R72). -/
theorem decideRelease_cases (s : State) :
    decideRelease s = s ∨
      ∃ i h, s.releaseSlot = none ∧ chooseHead s = some i ∧ headOf s i = some h ∧ decideRelease s = releaseHead i h s := by
  unfold decideRelease
  cases hr : s.releaseSlot with
  | some f => left; simp
  | none =>
    cases hc : chooseHead s with
    | none => left; simp
    | some i =>
      cases hh : headOf s i with
      | none => left; simp [hh]
      | some h => right; exact ⟨i, h, rfl, rfl, hh, by simp [hh]⟩

theorem releaseHead_touches (i : SlotId) (h : HeldRecord) (s : State) :
    releaseHead i h s =
      { s with slots := (releaseHead i h s).slots, tracker := (releaseHead i h s).tracker
               sched := (releaseHead i h s).sched, releaseSlot := (releaseHead i h s).releaseSlot } := rfl

theorem decideRelease_touches (s : State) :
    decideRelease s =
      { s with slots := (decideRelease s).slots, tracker := (decideRelease s).tracker
               sched := (decideRelease s).sched, releaseSlot := (decideRelease s).releaseSlot } := by
  rcases decideRelease_cases s with h | ⟨i, r, _, _, _, h⟩
  · rw [h]
  · rw [h, releaseHead_touches]

/-- The chosen slot has an eligible head (R70). -/
theorem chooseHead_eligible (s : State) (i : SlotId) (h : chooseHead s = some i) : slotEligible s i = true := by
  have key : ∀ (test : SlotId → Bool) (i : SlotId), classOrder.findSome? (firstInClass s test) = some i → test i = true := by
    intro test i hi
    obtain ⟨k, _, hk⟩ := List.exists_of_findSome?_eq_some hi
    have hf := List.find?_some hk
    simp only [Bool.and_eq_true] at hf
    exact hf.2
  unfold chooseHead at h
  split at h
  · rename_i j hj
    obtain rfl : j = i := by simpa using h
    have := key _ _ hj
    simp only [Bool.and_eq_true] at this
    exact this.1
  · exact key _ _ h

/-- A released head was eligible: its slot BOUND, no hold in force, its slot's outstanding below the cap (R67). -/
theorem slotEligible_bound (s : State) (i : SlotId) (h : slotEligible s i = true) :
    (s.slot i).state = .bound ∧ holdInForce s = false ∧ (s.slot i).outstanding < (s.slotPolicy i).concurrency := by
  unfold slotEligible at h
  cases hh : headOf s i with
  | none => simp [hh] at h
  | some r =>
    simp only [hh, headEligible, Bool.and_eq_true, decide_eq_true_eq, Bool.not_eq_true'] at h
    exact ⟨h.1.1.1.1.1, h.1.1.1.1.2, h.1.1.1.2⟩

theorem burstLift_touches (b : BurstReport) (s : State) :
    burstLift b s =
      { s with slots := (burstLift b s).slots, tracker := (burstLift b s).tracker, sched := (burstLift b s).sched
               releaseSlot := (burstLift b s).releaseSlot } := by
  unfold burstLift; split
  · rw [decideRelease_touches]; rfl
  · rfl

theorem reportOvercommit_touches (n : Nat) (s : State) :
    reportOvercommit n s =
      { s with originQueue := (reportOvercommit n s).originQueue, agent := (reportOvercommit n s).agent
               spool := (reportOvercommit n s).spool } := by
  unfold reportOvercommit; split
  · rw [raiseNotice_touches, offerEvent_touches]
  · rfl

theorem takeHold_touches (n : Nat) (s : State) :
    takeHold n s =
      { s with slots := (takeHold n s).slots, tracker := (takeHold n s).tracker, sched := (takeHold n s).sched
               releaseSlot := (takeHold n s).releaseSlot } := by
  unfold takeHold decideIfHoldEnded; split
  · rw [decideRelease_touches]; rfl
  · rfl

/-! ### Calibration -/

theorem takeCompletionOfCal_touches (s : State) :
    takeCompletionOfCal s =
      { s with originQueue := (takeCompletionOfCal s).originQueue, agent := (takeCompletionOfCal s).agent
               spool := (takeCompletionOfCal s).spool, monitor := (takeCompletionOfCal s).monitor } := by
  unfold takeCompletionOfCal completeCalibration; split
  · rw [raiseNotice_touches, offerEvent_touches]; rfl
  · rfl

theorem applySpoolWatermark_touches (old : SpoolSettings) (n : Nat) (s : State) :
    applySpoolWatermark old n s =
      { s with originQueue := (applySpoolWatermark old n s).originQueue, agent := (applySpoolWatermark old n s).agent } := by
  unfold applySpoolWatermark; split
  · exact raiseNotice_touches _ _
  · rfl

theorem applySpoolCapacity_touches (old : SpoolSettings) (s : State) :
    applySpoolCapacity old s =
      { s with originQueue := (applySpoolCapacity old s).originQueue, agent := (applySpoolCapacity old s).agent
               spool := (applySpoolCapacity old s).spool } := by
  unfold applySpoolCapacity; split
  · rw [freezeIfFull_touches]; rfl
  · rfl

theorem applySpoolMode_touches (old : SpoolSettings) (s : State) :
    applySpoolMode old s =
      { s with slots := (applySpoolMode old s).slots, spool := (applySpoolMode old s).spool } := by
  unfold applySpoolMode; split <;> rfl

theorem applySpoolCompression_touches (old : SpoolSettings) (s : State) :
    applySpoolCompression old s = { s with slots := (applySpoolCompression old s).slots } := by
  unfold applySpoolCompression; split <;> rfl

theorem applySpool_touches (old : Image) (s : State) :
    applySpool old s =
      { s with originQueue := (applySpool old s).originQueue, agent := (applySpool old s).agent
               slots := (applySpool old s).slots, spool := (applySpool old s).spool } := by
  unfold applySpool
  have h1 := applySpoolMode_touches old.spool s
  generalize applySpoolMode old.spool s = a at h1 ⊢
  have h2 := applySpoolCompression_touches old.spool a
  generalize applySpoolCompression old.spool a = b at h2 ⊢
  have h3 := applySpoolCapacity_touches old.spool (applySpoolBatching old (applySpoolCounts old.spool b))
  generalize applySpoolCapacity old.spool (applySpoolBatching old (applySpoolCounts old.spool b)) = c at h3 ⊢
  have h4 := applySpoolWatermark_touches old.spool s.spool.entries.length c
  generalize applySpoolWatermark old.spool s.spool.entries.length c = d at h4 ⊢
  rw [h4, h3, h2, h1]
  rfl

/-- What the Monitor's, the Scheduler's, the scan channel's and the spool's parts of an apply can change. -/
theorem applyOwners_touches (old : Image) (s : State) :
    applyOwners old s =
      { s with originQueue := (applyOwners old s).originQueue, agent := (applyOwners old s).agent
               slots := (applyOwners old s).slots, monitor := (applyOwners old s).monitor
               pace := (applyOwners old s).pace, spool := (applyOwners old s).spool } := by
  unfold applyOwners
  simp only []
  generalize hu : (clampBalances _).modPace _ = u
  have h1 := applySpool_touches old u
  generalize applySpool old u = v at h1 ⊢
  rw [h1, ← hu]
  split <;> rfl

theorem applyCommit_touches (s : State) :
    applyCommit s =
      { s with originQueue := (applyCommit s).originQueue, agent := (applyCommit s).agent, slots := (applyCommit s).slots
               monitor := (applyCommit s).monitor, pace := (applyCommit s).pace, spool := (applyCommit s).spool
               policy := (applyCommit s).policy } := by
  unfold applyCommit
  have h1 := applyOwners_touches s.policy.active (activateStaged s)
  generalize applyOwners s.policy.active (activateStaged s) = u at h1 ⊢
  have h2 := offerEvent_touches .commitApplied none (s.policy.pendingDigest.setWidth 32) u
  generalize offerEvent .commitApplied none (s.policy.pendingDigest.setWidth 32) u = v at h2 ⊢
  have h3 := raiseNotice_touches .commitApplied v
  generalize raiseNotice .commitApplied v = w at h3 ⊢
  rw [h3, h2, h1]
  rfl

/-- What the Pace Bank's and the Policy Stage's part of a boundary can change. -/
theorem openBoundary_touches (s : State) :
    openBoundary s =
      { s with originQueue := (openBoundary s).originQueue, agent := (openBoundary s).agent, slots := (openBoundary s).slots
               monitor := (openBoundary s).monitor, pace := (openBoundary s).pace, spool := (openBoundary s).spool
               policy := (openBoundary s).policy } := by
  unfold openBoundary applyIfPending
  split
  · have h := applyCommit_touches (s.modPace (turnEpoch s.paceSettings))
    generalize applyCommit (s.modPace (turnEpoch s.paceSettings)) = u at h ⊢
    rw [h]
    rfl
  · rfl

/-- An apply leaves the calibration, CAL and the epoch number. -/
theorem applyIfPending_calibration (s : State) :
    (applyIfPending s).monitor.cal = s.monitor.cal ∧ (applyIfPending s).pace.cal = s.pace.cal ∧
      (applyIfPending s).pace.epoch = s.pace.epoch ∧ (applyIfPending s).pace.opened = s.pace.opened := by
  unfold applyIfPending
  split
  · unfold applyCommit
    rw [raiseNotice_touches, offerEvent_touches]
    dsimp only
    unfold applyOwners
    rw [applySpool_touches]
    dsimp only
    unfold clampBalances
    split
    · unfold State.modMonitor applyMonitor seekAfresh
      refine ⟨?_, rfl, rfl, rfl⟩
      simp only [activateStaged, State.modPace, State.mapSlots]
      split <;> rfl
    · exact ⟨rfl, rfl, rfl, rfl⟩
  · exact ⟨rfl, rfl, rfl, rfl⟩

/-- The Pace Bank's and the Policy Stage's part of a boundary raises the epoch number, counts for CAL and leaves the
calibration. -/
theorem openBoundary_calibration (s : State) :
    (openBoundary s).monitor.cal = s.monitor.cal ∧ (openBoundary s).pace.cal = boundaryCal s.pace.cal ∧
      (openBoundary s).pace.epoch = s.pace.epoch + 1 := by
  have := applyIfPending_calibration (s.modPace (turnEpoch s.paceSettings))
  unfold openBoundary
  refine ⟨this.1, ?_, ?_⟩
  · show boundaryCal _ = _
    congr 1
    exact this.2.1
  · exact this.2.2.1

theorem takeWaitingExpiry_touches (s : State) :
    takeWaitingExpiry s =
      { s with originQueue := (takeWaitingExpiry s).originQueue, agent := (takeWaitingExpiry s).agent
               spool := (takeWaitingExpiry s).spool, monitor := (takeWaitingExpiry s).monitor
               pace := (takeWaitingExpiry s).pace } := by
  unfold takeWaitingExpiry; rw [takeCompletionOfCal_touches]; rfl

theorem refill_touches (s : State) :
    refill s =
      { s with originQueue := (refill s).originQueue, agent := (refill s).agent, slots := (refill s).slots
               spool := (refill s).spool } := by
  unfold refill lowerLifts payBalances State.mapSlots
  rw [reportOvercommit_touches]

theorem payOpened_touches (pie : Nat) (s : State) :
    payOpened pie s =
      { s with originQueue := (payOpened pie s).originQueue, agent := (payOpened pie s).agent
               slots := (payOpened pie s).slots, spool := (payOpened pie s).spool, sched := (payOpened pie s).sched } := by
  unfold payOpened
  have h := refill_touches (openEpoch pie s)
  generalize refill (openEpoch pie s) = u at h ⊢
  rw [h]
  rfl

/-- What a boundary up to the Monitor's close can change: the ports, the Sorter and the counters of lost DONEs stand. -/
theorem openEarly_touches (s : State) :
    openEarly s =
      { s with originQueue := (openEarly s).originQueue, agent := (openEarly s).agent, slots := (openEarly s).slots
               monitor := (openEarly s).monitor, pace := (openEarly s).pace, spool := (openEarly s).spool
               policy := (openEarly s).policy, tracker := (openEarly s).tracker, sched := (openEarly s).sched
               releaseSlot := (openEarly s).releaseSlot } := by
  unfold openEarly
  simp only []
  have h1 := openBoundary_touches s
  generalize openBoundary s = a at h1 ⊢
  have h2 := payOpened_touches (nextPie s (s.pace.epoch + 1)) a
  generalize payOpened (nextPie s (s.pace.epoch + 1)) a = b at h2 ⊢
  have h3 := decideRelease_touches b
  generalize decideRelease b = c at h3 ⊢
  rw [h3, h2, h1]
  rfl

theorem takeCalExpiry_touches (s : State) :
    takeCalExpiry s =
      { s with originQueue := (takeCalExpiry s).originQueue, agent := (takeCalExpiry s).agent
               slots := (takeCalExpiry s).slots, monitor := (takeCalExpiry s).monitor, pace := (takeCalExpiry s).pace
               spool := (takeCalExpiry s).spool, policy := (takeCalExpiry s).policy, tracker := (takeCalExpiry s).tracker
               sched := (takeCalExpiry s).sched, releaseSlot := (takeCalExpiry s).releaseSlot } := by
  unfold takeCalExpiry
  split
  · rfl
  · split
    · have h := takeWaitingExpiry_touches s
      generalize takeWaitingExpiry s = u at h ⊢
      rw [h]
    · split
      · have h := openEarly_touches s
        generalize openEarly s = u at h ⊢
        rw [takeWaitingExpiry_touches, h]
      · rfl

/-! ### Store and Tracker -/

theorem turnAway_touches (o : TurnAwayOrder) (c : DoneCode) (f : Frame) (s : State) :
    turnAway o c f s =
      { s with originQueue := (turnAway o c f s).originQueue, lostDone := (turnAway o c f s).lostDone
               agent := (turnAway o c f s).agent } := by
  cases o
  · unfold turnAway; simp only []; rw [raiseNotice_touches, placeDone_touches]
  · unfold turnAway; simp only []; rw [placeDone_touches, raiseNotice_touches]

theorem turnAwayFrom_touches (o : TurnAwayOrder) (i : SlotId) (c : DoneCode) (f : Frame) (s : State) :
    turnAwayFrom o i c f s =
      { s with originQueue := (turnAwayFrom o i c f s).originQueue, lostDone := (turnAwayFrom o i c f s).lostDone
               agent := (turnAwayFrom o i c f s).agent, slots := (turnAwayFrom o i c f s).slots } := by
  unfold turnAwayFrom; rw [turnAway_touches]; rfl

theorem admitCommand_touches (i : SlotId) (f : Frame) (s : State) :
    admitCommand i f s =
      { s with slots := (admitCommand i f s).slots, tracker := (admitCommand i f s).tracker
               sched := (admitCommand i f s).sched, releaseSlot := (admitCommand i f s).releaseSlot
               pace := (admitCommand i f s).pace } := by
  unfold admitCommand; rw [decideRelease_touches]; rfl

/-- A withdrawal of one record touches the origin queue, the lost-DONE counters and the slot's counters. -/
theorem withdrawOne_touches (i : SlotId) (s : State) (h : HeldRecord) :
    withdrawOne i s h =
      { s with originQueue := (withdrawOne i s h).originQueue, lostDone := (withdrawOne i s h).lostDone
               slots := (withdrawOne i s h).slots } := by
  unfold withdrawOne State.countSlot State.modSlot State.setSlot; rw [placeDone_touches]

theorem foldl_withdrawOne_touches (i : SlotId) (q : List HeldRecord) (s : State) :
    q.foldl (withdrawOne i) s =
      { s with originQueue := (q.foldl (withdrawOne i) s).originQueue
               lostDone := (q.foldl (withdrawOne i) s).lostDone
               slots := (q.foldl (withdrawOne i) s).slots } := by
  induction q generalizing s with
  | nil => rfl
  | cons h t ih =>
    simp only [List.foldl_cons]
    rw [ih, withdrawOne_touches]

theorem withdrawAll_touches (s : State) (i : SlotId) :
    withdrawAll s i =
      { s with originQueue := (withdrawAll s i).originQueue, lostDone := (withdrawAll s i).lostDone
               slots := (withdrawAll s i).slots } := by
  unfold withdrawAll; rw [foldl_withdrawOne_touches]; rfl

theorem abortHeld_touches (i : SlotId) (h : HeldRecord) (s : State) :
    abortHeld i h s =
      { s with originQueue := (abortHeld i h s).originQueue, lostDone := (abortHeld i h s).lostDone
               slots := (abortHeld i h s).slots, tracker := (abortHeld i h s).tracker
               sched := (abortHeld i h s).sched, releaseSlot := (abortHeld i h s).releaseSlot } := by
  unfold abortHeld; simp only []; split
  · rw [decideRelease_touches, placeDone_touches]; rfl
  · rw [placeDone_touches]; rfl

theorem trackData_touches (p : Port) (f : Frame) (r : OpenRecord) (s : State) :
    trackData p f r s =
      { s with originQueue := (trackData p f r s).originQueue, agent := (trackData p f r s).agent
               spool := (trackData p f r s).spool, slots := (trackData p f r s).slots
               tracker := (trackData p f r s).tracker } := by
  unfold trackData; simp only []; split
  · rw [reportViolation_touches]; rfl
  · rfl

theorem settleSlot_touches (r : OpenRecord) (c n : Nat) (s : State) :
    settleSlot r c n s = { s with slots := (settleSlot r c n s).slots } := by
  unfold settleSlot; simp only []; split
  · rfl
  · rw [decrementOutstanding_touches]; rfl

theorem closeRecord_touches (r : OpenRecord) (c n : Nat) (s : State) :
    closeRecord r c n s =
      { s with slots := (closeRecord r c n s).slots, tracker := (closeRecord r c n s).tracker
               sched := (closeRecord r c n s).sched, monitor := (closeRecord r c n s).monitor
               releaseSlot := (closeRecord r c n s).releaseSlot } := by
  unfold closeRecord; simp only []; split
  · rw [decideRelease_touches]; split
    · rw [settleSlot_touches]; rfl
    · rfl
  · split
    · rw [settleSlot_touches]; rfl
    · rfl

/-! ### Agent -/

theorem placeResponse_touches (w : WaitingResponse) (s : State) :
    placeResponse w s =
      { s with originQueue := (placeResponse w s).originQueue, agent := (placeResponse w s).agent } := by
  unfold placeResponse; split
  · unfold completeRequest; cases w.completion <;> rfl
  · rfl

theorem answer_touches (req : Frame) (x : State × Reply) :
    answer req x = { x.1 with originQueue := (answer req x).originQueue, agent := (answer req x).agent } := by
  unfold answer; rw [placeResponse_touches]

/-- What the taking of a request does: nothing, or the answer to the oldest request (R162). -/
theorem takeRequest_cases (accepts : Frame → Bool) (serve : Frame → State → State × Reply) (s : State) :
    takeRequest accepts serve s = s ∨
      ∃ req, s.inReset = false ∧ nextRequest s = some req ∧ accepts req = true ∧
        takeRequest accepts serve s = answer req (serve req s) := by
  unfold takeRequest
  cases hr : s.inReset with
  | true => left; simp
  | false =>
    cases hn : nextRequest s with
    | none => left; simp
    | some req =>
      cases ha : accepts req with
      | false => left; simp [ha]
      | true => right; exact ⟨req, rfl, rfl, ha, by simp [ha]⟩

/-- The Agent takes the oldest request where nothing waits and no reset is carried out. -/
theorem takeRequest_taken (accepts : Frame → Bool) (serve : Frame → State → State × Reply) (s : State) (req : Frame)
    (hr : s.inReset = false) (hw : s.agent.waiting = none) (hd : s.agent.resetDue = none)
    (hb : s.agent.buffer.head? = some req) (ha : accepts req = true) :
    takeRequest accepts serve s = answer req (serve req s) := by
  simp [takeRequest, nextRequest, hr, hw, hd, hb, ha]

/-- The frame checks passed, a request of a sized kind goes to its handler (R163). -/
theorem serveSized_handled (size : Nat) (handle : List Byte → State → State × Reply) (req : Frame) (s : State)
    (hc : requestCorrupt req = false) (hl : bodyLength req = size + 2) :
    serveSized size handle req s = handle (body req) s := by
  simp [serveSized, hc, hl]

end Sys2Proof.Machine
end

