-- ==== Sys2Proof/Laws/Words.lean ====
section
/-! SUPPORT. Each word of the statements equals the operation of the model it describes, so that a proof about a word goes on
with the operation's own lemmas. -/

namespace Sys2Proof.Machine

set_option maxRecDepth 4000

theorem eachSlot_eq (g) (s : State) : eachSlot g s = s.mapSlots g := by
  have h : (Vector.ofFn fun i : Fin 128 => g i (s.slot i)) = s.slots.mapFinIdx fun i x h => g ⟨i, h⟩ x := by
    apply Vector.ext
    intro i h
    rw [Vector.getElem_ofFn, Vector.getElem_mapFinIdx]; rfl
  unfold eachSlot State.mapSlots
  rw [h]

theorem doneSent_eq (code cmd) (s : State) : doneSent code cmd s = placeDone code cmd s := by
  unfold doneSent placeDone originHasSpace originCapacity pushOrigin
  by_cases h : s.originQueue.length < 64
  · simp only [h, decide_true, if_true]
  · simp only [h, decide_false, if_false, Bool.false_eq_true]
    cases code <;> simp [countLostDone]

theorem refused_eq (o code cmd) (s : State) : refused o code cmd s = turnAway o code cmd s := by
  cases o <;> simp [refused, turnAway, doneSent_eq]

theorem refusedFrom_eq (o i code cmd) (s : State) : refusedFrom o i code cmd s = turnAwayFrom o i code cmd s := by
  unfold refusedFrom turnAwayFrom; rw [refused_eq]; rfl

theorem slot_modSlot_same (s : State) (i g) : (s.modSlot i g).slot i = g (s.slot i) := by
  simp [State.modSlot, State.setSlot, State.slot]

theorem modSlot_modSlot_same (s : State) (i g g') : (s.modSlot i g).modSlot i g' = s.modSlot i (fun x => g' (g x)) := by
  simp [State.modSlot, State.setSlot, State.slot]

theorem violated_eq (i) (s : State) : violated i s = reportViolation i s := by
  unfold violated reportViolation quarantine
  simp only [slot_modSlot_same, modSlot_modSlot_same, satAdd, Nat.min_def, State.part]
  by_cases h : (s.slot i).state = .vacant
  · simp only [h, if_true]
  · simp only [h, if_false]; rfl

theorem tallied_eq (c i m) : tallied c i m = tallyMeter c i m := by
  unfold tallied tallyMeter
  by_cases h1 : c.binding = some i <;> by_cases h2 : m.run = .running <;> by_cases h3 : m.count ≤ 1 <;>
    simp [h1, h2, h3]

theorem entryOf_eq (t o) : entryOf t o = costEntry t o := by cases o <;> rfl

theorem costOf_eq (s : State) (h) : costOf s h = headCost s h := by unfold costOf headCost commandCost eighths; rw [entryOf_eq]

theorem eligible_iff (s : State) (i h) : Eligible s i h ↔ (s.slot i).queue.head? = some h ∧ headEligible s i h = true := by
  simp only [Eligible, headEligible, holdInForce, ceilingTest, pieGate, balanceTest, costOf_eq]
  cases hc : (s.slotPolicy i).ceiling <;> cases hl : s.portT.link <;> cases ht : s.sched.holdTicks <;> simp [and_assoc]

theorem releasedFrom_eq (s : State) (i h) : releasedFrom s i h = releaseHead i h s := by
  unfold releasedFrom releaseHead
  rw [costOf_eq]
  cases hk : (s.slotPolicy i).cls <;> simp only [setRingPointer] <;> rfl

theorem refunded_eq (t r c d) : refunded t r c d = refundOf t r c d := by unfold refunded refundOf eighths; rw [entryOf_eq]

theorem seekingAgain_eq (m) : seekingAgain m = seekAfresh m := rfl

theorem reported_eq (d l m) : reported d l m = silentExit (accumulate d l m) := by
  cases l <;> by_cases h : m.state = .silent <;>
    simp [reported, silentExit, accumulate, h, seekAfresh, seekingAgain, satAdd, max32]

theorem outstandingLowered_eq (i) (s : State) :
    { s with slots := s.slots.set i.val (outstandingLowered (s.slot i)) } =
      decrementOutstanding i s := by
  unfold outstandingLowered decrementOutstanding completeDrain
  simp only [slot_modSlot_same, modSlot_modSlot_same]
  by_cases h : (s.slot i).state = .draining ∧ (s.slot i).outstanding - 1 = 0
  · rw [if_pos h, if_pos h]; rfl
  · simp only [h, if_false]; rfl

theorem entryLimit_eq (c) : entryLimit c = capacityOf c := rfl

theorem firstStateOf_eq (c) : firstStateOf c = firstState c := by cases c <;> rfl

theorem triggerTaken_eq (sl c) (s : State) : triggerTaken sl c s = takeTrigger sl c s := by
  unfold triggerTaken takeTrigger triggerKeep triggerRoom
  rfl

theorem limitOf_eq (t c) : limitOf t c = ageLimit t c := by cases c <;> rfl

theorem ticksOf_eq (p) : ticksOf p = prescaleTicks p := by cases p <;> rfl

theorem slotRecordOffered_eq (s : State) (i) : slotRecordOffered s i = offerSlotRecord i s := by
  have hf :
      decide
          (s.policy.active.spool.compression = none ∨ (s.slot i).spool.fullNext = true ∨
            (s.slot i).spool.compression = 0 ∨
              ∃ d ∈
                [(s.slot i).balance - (s.slot i).spool.baseline.balance,
                  ((s.slot i).queue.length : Int) - (s.slot i).spool.baseline.depth,
                  ((s.slot i).outstanding : Int) - (s.slot i).spool.baseline.outstanding,
                  ((s.slot i).spool.periodReleased : Int) - (s.slot i).spool.baseline.released,
                  ((s.slot i).spool.periodCompleted : Int) - (s.slot i).spool.baseline.completed],
                d < -2048 ∨ 2047 < d) =
        slotRecordFull s.spoolSettings.compression (s.slot i).spool (slotValues (s.slot i)) := by
    unfold slotRecordFull State.spoolSettings slotChanges slotValues Slot.depth
    rw [Bool.eq_iff_iff]
    simp only [Bool.or_eq_true, decide_eq_true_eq, List.any_eq_true, Option.isNone_iff_eq_none, or_assoc]
  unfold slotRecordOffered offerSlotRecord
  dsimp only
  rw [hf]
  have hp : ∀ e (u : State), (offerRecord e u).1.policy = u.policy := fun e u => by rw [offerRecord_touches]
  generalize slotRecordFull _ _ _ = b
  clear hf
  have key : ∀ (e : SpoolEntry) (v : State), v.policy = s.policy →
      (let u := (offerRecord e v).1
      if (offerRecord e v).2 = true then
        if s.policy.active.spool.batchSlot = some i then
          if u.spool.batchCount + 1 = s.policy.active.spool.batchThreshold then
            raiseNotice .batch { u with spool := { u.spool with batchCount := 0 } }
          else { u with spool := { u.spool with batchCount := u.spool.batchCount + 1 } }
        else u
      else
        { u with slots := u.slots.set i.val { u.slot i with spool := { (u.slot i).spool with fullNext := true } } }) =
        if (offerRecord e v).2 = true then countBatch i (offerRecord e v).1
        else (offerRecord e v).1.modSlot i fun y => { y with spool := { y.spool with fullNext := true } } := by
    intro e v hv
    have h1 := hp e v
    generalize offerRecord e v = r at h1 ⊢
    unfold countBatch State.spoolSettings
    rw [← hv, ← h1]
    rfl
  cases b <;> cases hc : s.policy.active.spool.compression <;> refine (key _ _ ?_).trans ?_
  all_goals first | rfl | (simp only [State.spoolSettings, *]; rfl)

theorem slotAtBoundary_eq (s : State) (i) : slotAtBoundary s i = spoolSlotStep s i := by
  unfold slotAtBoundary spoolSlotStep
  cases h : (s.slotPolicy i).batching with
  | none => rfl
  | some k =>
    simp only [slotRecordOffered_eq]
    by_cases h1 : (s.slot i).state = .bound
    · by_cases h2 : 2 ^ k ≤ (s.slot i).spool.batching + 1
      · rw [if_neg (by simpa using h1), if_neg (by omega), if_pos h1, if_pos h2]; rfl
      · rw [if_neg (by simpa using h1), if_pos (by omega), if_pos h1, if_neg h2]; rfl
    · rw [if_pos h1, if_neg h1]

theorem summaryPart_eq (c) (s : State) : (match s.policy.active.spool.summaryBatching with
    | none => (s, false)
    | some k =>
      if s.spool.summaryCount + 1 < 2 ^ k then
        ({ s with spool := { s.spool with summaryCount := s.spool.summaryCount + 1 } }, false)
      else offerRecord (.epochSummary c) { s with spool := { s.spool with summaryCount := 0 } }) = spoolSummaryStep c s := by
  unfold spoolSummaryStep State.spoolSettings
  cases h : s.policy.active.spool.summaryBatching with
  | none => rfl
  | some k =>
    by_cases h2 : s.spool.summaryCount + 1 < 2 ^ k
    · simp only []; rw [if_pos h2, if_neg (by omega)]; rfl
    · simp only []; rw [if_neg h2, if_pos (by omega)]; rfl

theorem spoolAtBoundary_eq (c) (s : State) : spoolAtBoundary c s = spoolBoundaryStep c s := by
  have this : slotAtBoundary = spoolSlotStep := by funext s i; exact slotAtBoundary_eq s i
  have h2 := summaryPart_eq c s
  unfold spoolAtBoundary spoolBoundaryStep
  rw [this, ← h2]
  generalize hF : List.finRange 128 = F
  unfold allSlots
  rw [hF]
  clear h2
  unfold spoolMarkStep State.spoolSettings
  have tail : ∀ r : State × Bool,
      (let u := List.foldl spoolSlotStep r.1 F
      match u.policy.active.spool.markSpacing with
      | none =>
        { u with
          spool := { u.spool with markCount := if r.2 = true then min 31 (u.spool.markCount + 1) else u.spool.markCount } }
      | some d =>
        if d ≤ u.spool.markCount + (if r.2 = true then 1 else 0) then
          (offerRecord (.timeMark u.pace.epoch u.pace.time) { u with spool := { u.spool with markCount := 0 } }).1
        else
          { u with
            spool :=
              { u.spool with markCount := if r.2 = true then min 31 (u.spool.markCount + 1) else u.spool.markCount } }) =
        spoolMarkStep r.2 (List.foldl spoolSlotStep r.1 F) := by
    intro r
    generalize List.foldl spoolSlotStep r.1 F = u
    dsimp only
    unfold spoolMarkStep State.spoolSettings
    cases h : u.policy.active.spool.markSpacing <;> cases r.2 <;> rfl
  exact tail _

theorem loadedAgain_eq (n p r c) : loadedAgain n p r c = reloadChannel n p r c := rfl

theorem ticked_eq (c) : ticked c = tickChannel c := by
  unfold ticked tickChannel countDue
  rw [ticksOf_eq]
  by_cases h : c.run = .stopped
  · simp [h]
  · by_cases h2 : c.phase + 1 < prescaleTicks c.prescale
    · have h3 : ¬ prescaleTicks c.prescale ≤ c.phase + 1 := by omega
      simp [h, h2, h3]
    · have h3 : prescaleTicks c.prescale ≤ c.phase + 1 := by omega
      simp [h, h2, h3]

theorem countComes_iff (c) : CountComes c ↔ countDue c = true := by unfold CountComes countDue; rw [ticksOf_eq]; simp

theorem lastCountNext_iff (c) : LastCountNext c ↔ calExpiresNext c = true := by
  unfold LastCountNext calExpiresNext; simp [and_assoc]

theorem meterLoaded_eq (c m) : meterLoaded c m = reloadMeter c m := by
  unfold meterLoaded reloadMeter; cases c.binding <;> simp

theorem calAtBoundary_eq (c) : calAtBoundary c = boundaryCal c := by
  unfold calAtBoundary boundaryCal countCal
  obtain ⟨cnt, run, rel, arm, due⟩ := c
  cases arm <;> cases run <;> simp

theorem scanAtApply_eq (c x) : scanAtApply c x = applyScan c x := by
  unfold scanAtApply applyScan startChannel loadCount channelLargest
  obtain ⟨cnt, run, ph, pre, rel⟩ := x
  cases h : c.scanEnable <;> cases run <;> simp

theorem paceTurned_eq (s : State) : paceTurned s = s.modPace (turnEpoch s.paceSettings) := by
  unfold paceTurned State.modPace turnEpoch State.paceSettings epochLength loadCount pairLargest
  simp only [ticksOf_eq]; rfl

theorem reportHanded_eq (s : State) : reportHanded s = closingReport s := by
  unfold reportHanded closingReport backlog allSlots Slot.depth
  congr 1
  rw [Bool.eq_iff_iff]
  simp

theorem judged_eq (e r) (s : State) : judged e r s = measure e r s := by
  unfold judged measure saturatedEpoch State.trackerParams
  simp only [Bool.decide_or, Bool.decide_eq_true]
  rfl

theorem matches_iff (x p) : Matches x p ↔ matchesProfile x p = true := by
  unfold Matches matchesProfile; simp [and_assoc]

theorem lowestMatch_eq (s : State) (x) : lowestMatch s x = firstMatch s x := by
  unfold lowestMatch firstMatch activeProfile
  congr 1; funext p
  rw [Bool.eq_iff_iff, decide_eq_true_eq, matches_iff]

theorem profileNumber_eq (p) : profileNumber p = profileValue p := by cases p <;> rfl

theorem closeRecorded_eq (x m) : closeRecorded x m = recordClose x m := by
  unfold closeRecorded recordClose calStep addCalEpoch calHolds satAdd max32 ageOf
  rcases Nat.eq_zero_or_pos x.count with h | h
  · simp [h, lastEpochOf]
  · simp [h, Nat.pos_iff_ne_zero.mp h, lastEpochOf]

theorem silenceMoved_eq (x) (s : State) : silenceMoved x s = silentStep x s := by
  unfold silenceMoved silentStep nextSilentRun satAdd State.modMonitor
  rfl

theorem runMoved_eq (x) (s : State) : runMoved x s = runStep x s := by
  unfold runMoved runStep
  cases hs : x.saturated with
  | false => simp
  | true =>
    simp only [Bool.true_eq_false, if_false, if_true]
    cases hm : s.monitor.state with
    | seeking =>
      simp only [lowestMatch_eq, profileNumber_eq]
      unfold seekStep seekRun State.modMonitor State.trackerParams
      cases hf : firstMatch s x with
      | none =>
        simp only [if_true]
        by_cases h0 : 0 < s.policy.active.tracker.lockCount
        · rw [if_pos h0, if_neg (by omega)]
          try simp only [*]
        · rw [if_neg h0, if_pos (by omega)]
      | some p =>
        simp only [reduceCtorEq, if_false]
        by_cases hc : some p = s.monitor.candidate
        · simp only [hc, if_true]
          by_cases h0 : s.monitor.run + 1 < s.policy.active.tracker.lockCount
          · rw [if_pos h0, if_neg (by omega)]
            try simp only [*]
          · rw [if_neg h0, if_pos (by omega)]
        · simp only [hc, if_false, Ne.symm hc]
          by_cases h0 : 1 < s.policy.active.tracker.lockCount
          · rw [if_pos h0, if_neg (by omega)]
            try simp only [*]
          · rw [if_neg h0, if_pos (by omega)]
    | locked =>
      simp only [profileNumber_eq, seekingAgain_eq]
      unfold lockedStep matchesSelected State.modMonitor State.trackerParams activeProfile
      cases hsel : s.monitor.selected with
      | none =>
        simp only [reduceCtorEq, false_and, exists_false, if_false, Bool.false_eq_true]
        by_cases h0 : s.monitor.miss + 1 < s.policy.active.tracker.unlockCount
        · rw [if_pos h0, if_neg (by omega)]
          try simp only [*]
        · rw [if_neg h0, if_pos (by omega)]
      | some p =>
        have : (∃ q, some p = some q ∧ Matches x s.policy.active.profiles[q]) ↔
            matchesProfile x s.policy.active.profiles[p] = true := by
          simp only [Option.some.injEq, exists_eq_left', matches_iff]
        simp only [this]
        by_cases h0 : s.monitor.miss + 1 < s.policy.active.tracker.unlockCount
        · rw [if_pos h0, if_neg (show ¬ (s.policy.active.tracker.unlockCount ≤ s.monitor.miss + 1) by omega)]
          try simp only [*]
        · rw [if_neg h0, if_pos (show (s.policy.active.tracker.unlockCount ≤ s.monitor.miss + 1) by omega)]
          try simp only [*]
    | forced => rfl
    | silent => rfl

theorem summarized_eq (x m) : summarized x m = summaryOf x m := by
  unfold summarized summaryOf namedProfile
  cases m.state <;> rfl

theorem epochOpened_eq (p) (s : State) : epochOpened p s = openEpoch p s := by
  unfold epochOpened openEpoch; rw [eachSlot_eq]

theorem headsPromoted_eq (s : State) : headsPromoted s = promoteHeads s := by
  unfold headsPromoted promoteHeads
  rw [eachSlot_eq]
  congr 1; funext i x
  congr 1
  rw [limitOf_eq]
  cases hq : x.queue <;> cases ha : ageLimit s.policy.active.classes (s.slotPolicy i).cls <;> rfl

theorem pieOpened_eq (s : State) : pieOpened s = nextPie s (s.pace.epoch + 1) := by
  unfold pieOpened nextPie isCalEpoch calHolds ageOf offer namedBudget activeProfile State.trackerParams
  simp only [Bool.and_eq_true, decide_eq_true_eq]
  all_goals (cases s.monitor.state <;> cases s.monitor.selected <;> cases s.monitor.forced <;> rfl)

theorem spoolAtApply_eq (old : Image) (s : State) : spoolAtApply old s = applySpool old s := by
  have hset :
      applySpoolBatching old (applySpoolCounts old.spool (applySpoolCompression old.spool (applySpoolMode old.spool s))) =
        (let o := old.spool
        let c := s.policy.active.spool
        { eachSlot
            (fun i x =>
              { x with
                spool :=
                  { x.spool with
                    fullNext := if c.mode = o.mode ∧ c.compression = o.compression then x.spool.fullNext else true
                    batching := if (s.slotPolicy i).batching = (old.slots[i]).batching then x.spool.batching else 0 } })
            s with
          spool :=
            { s.spool with
              entries := if c.mode = o.mode then s.spool.entries else []
              state := if c.mode = o.mode then s.spool.state else firstStateOf c.mode
              summaryCount := if c.summaryBatching = o.summaryBatching then s.spool.summaryCount else 0
              markCount := if c.markSpacing = o.markSpacing then s.spool.markCount else 0
              batchCount :=
                if c.batchSlot = o.batchSlot ∧ c.batchThreshold = o.batchThreshold then s.spool.batchCount else 0 } }) := by
    dsimp only
    rw [eachSlot_eq, firstStateOf_eq]
    unfold applySpoolBatching applySpoolCounts applySpoolCompression applySpoolMode setFullNext State.spoolSettings
      State.modSpool
    have hm : ∀ (u : State) g, (u.mapSlots g).policy = u.policy := fun _ _ => rfl
    by_cases h1 : s.policy.active.spool.mode = old.spool.mode <;>
      by_cases h2 : s.policy.active.spool.compression = old.spool.compression
    all_goals
      simp only [h1, h2, if_true, if_false, hm, and_self, and_true, and_false]
      unfold State.mapSlots State.slotPolicy
      simp only [State.mk.injEq, true_and, and_true]
      apply Vector.ext; intro i hi
      simp
      try split <;> rfl
  unfold spoolAtApply applySpool
  rw [hset]
  clear hset
  simp only [eachSlot_eq, firstStateOf_eq, entryLimit_eq, State.mapSlots]
  generalize Vector.mapFinIdx _ _ = S
  unfold applySpoolWatermark applySpoolCapacity freezeIfFull State.spoolSettings State.modSpool
  have hr : ∀ k (u : State), (raiseNotice k u).policy = u.policy := fun k u => by rw [raiseNotice_touches]
  have hr2 : ∀ k (u : State), (raiseNotice k u).spool = u.spool := fun k u => by rw [raiseNotice_touches]
  have hb : (spoolBehaviour .post s.policy.active.spool.mode = .stop) ↔
      (s.policy.active.spool.mode = .ringThenStop ∨ s.policy.active.spool.mode = .offThenStop) := by
    cases s.policy.active.spool.mode <;> simp [spoolBehaviour]
  by_cases hcap : capacityOf s.policy.active.spool < capacityOf old.spool
  · simp only [hcap, if_true, true_and, hb]
    generalize (if s.policy.active.spool.mode = old.spool.mode then s.spool.entries else []) = whole
    generalize (if s.policy.active.spool.mode = old.spool.mode then s.spool.state
      else firstState s.policy.active.spool.mode) = st
    by_cases hf : st = .post ∧ (s.policy.active.spool.mode = .ringThenStop ∨ s.policy.active.spool.mode = .offThenStop) ∧
        capacityOf s.policy.active.spool ≤ (List.drop (whole.length - capacityOf s.policy.active.spool) whole).length
    · rw [if_pos hf, hr, hr2]
    · rw [if_neg hf]
  · simp only [hcap, if_false, false_and]

theorem applied_eq (s : State) : applied s = applyCommit s := by
  unfold applied applyCommit
  dsimp only
  congr 1
  congr 1
  unfold applyOwners activateStaged
  rw [spoolAtApply_eq, eachSlot_eq]
  dsimp only
  congr 1
  unfold clampBalances monitorPolicyChanged State.modMonitor State.modPace applyMonitor
  rw [scanAtApply_eq]
  by_cases h : s.policy.active.profiles ≠ s.policy.staged.profiles ∨ s.policy.active.tracker ≠ s.policy.staged.tracker
  · have h2 : (decide (s.policy.active.profiles ≠ s.policy.staged.profiles) ||
        decide (s.policy.active.tracker ≠ s.policy.staged.tracker)) = true := by simpa using h
    simp only [h2, if_true]
    simp only [h, true_and]
    cases hms : s.monitor.state <;>
      simp only [reduceCtorEq, or_false, or_true, or_self, if_true, if_false, seekingAgain_eq, State.mapSlots] <;> rfl
  · have h2 : (decide (s.policy.active.profiles ≠ s.policy.staged.profiles) ||
        decide (s.policy.active.tracker ≠ s.policy.staged.tracker)) = false := by simpa using h
    simp only [h2, h, if_false, false_and, Bool.false_eq_true]; rfl

theorem boundaryOpened_eq (s : State) : boundaryOpened s = openBoundary s := by
  unfold boundaryOpened openBoundary applyIfPending reloadMeters
  rw [paceTurned_eq, applied_eq]
  simp only [meterLoaded_eq, calAtBoundary_eq]
  rfl

theorem closed_eq (x) (s : State) : closed x s = closeEpoch x s := by
  unfold closed closeEpoch State.modMonitor
  rw [silenceMoved_eq, runMoved_eq]
  simp only [closeRecorded_eq]

theorem inPayout_iff (s : State) (i) : InPayout s i ↔ inPayout (s.slot i) = true := by unfold InPayout inPayout; simp

theorem inContending_iff (s : State) (i) : InContending s i ↔ inContending (s.slot i) = true := by
  unfold InContending inContending Slot.depth; simp

theorem demanded_eq (s : State) (i) : demanded s i = demandOf (s.slotPolicy i) (s.slot i) := rfl

theorem totalDemand_eq (s : State) : totalDemand s = demandSum s := by
  unfold totalDemand demandSum allSlots
  simp only [inPayout_iff, demanded_eq]

theorem totalWeight_eq (s : State) : totalWeight s = weightSum s := by
  unfold totalWeight weightSum allSlots
  simp only [inContending_iff]

theorem paidTo_eq (s : State) (i) : paidTo s i = payout s i := by
  unfold paidTo payout quantum
  simp only [totalDemand_eq, totalWeight_eq, inPayout_iff, inContending_iff, demanded_eq]
  by_cases h : weightSum s = 0
  · simp [h]
  · simp [h]

theorem refilled_eq (s : State) : refilled s = refill s := by
  have h : eachSlot
      (fun i x =>
        if InPayout s i ∨ InContending s i then
          { x with balance := min ((s.slotPolicy i).cap : Int) (x.balance + paidTo s i) }
        else x) s = payBalances s := by
    rw [eachSlot_eq]
    unfold payBalances State.mapSlots
    have :
        (s.slots.mapFinIdx fun i x h =>
          if InPayout s ⟨i, h⟩ ∨ InContending s ⟨i, h⟩ then
            { x with balance := min ((s.slotPolicy ⟨i, h⟩).cap : Int) (x.balance + paidTo s ⟨i, h⟩) }
          else x) =
          s.slots.mapFinIdx fun i x h =>
            if (inPayout x || inContending x) = true then
              { x with balance := raiseBalance (s.slotPolicy ⟨i, h⟩).cap x.balance (payout s ⟨i, h⟩) }
            else x := by
      apply Vector.ext; intro i hi
      rw [Vector.getElem_mapFinIdx, Vector.getElem_mapFinIdx]
      have e : s.slots[i] = s.slot ⟨i, hi⟩ := rfl
      rw [e, paidTo_eq]
      simp only [inPayout_iff, inContending_iff, Bool.or_eq_true]
      rfl
    rw [this]
  unfold refilled refill lowerLifts reportOvercommit
  rw [h, totalDemand_eq]
  simp only [eachSlot_eq]
  rfl

theorem idleMarked_eq (s : State) : idleMarked s = idleMarking s := by
  unfold idleMarked idleMarking
  rw [eachSlot_eq]; congr 1; funext i x
  unfold idleMarkSlot satAdd State.part Slot.depth
  dsimp only
  by_cases h : x.state = .bound <;>
    by_cases h2 : (x.admissionMark = false ∧ x.queue.length = 0 ∧ x.outstanding = 0) <;>
      simp only [h, h2, if_true, if_false, true_and, false_and, and_false, decide_false, Bool.or_false]

theorem starvationNoted_eq (s : State) (i) : starvationNoted s i = starveSlot s i := by
  unfold starvationNoted starveSlot headOf
  cases hq : (s.slot i).queue with
  | nil => rfl
  | cons h t =>
    simp only [List.head?_cons]
    change (if _ then _ else s) = if _ then _ else s
    unfold State.modSlot State.setSlot
    simp only [hq]
    rfl

theorem turnsStale_iff (s : State) (r) : TurnsStale s r ↔ turnsStale s r = true := by
  unfold TurnsStale turnsStale recordAge ageOf State.part; simp

theorem visited_eq (s : State) (r) : visited s r = walkRecord s r := by
  unfold visited walkRecord
  have h1 : turnsOrphan s r = true ↔
      s.policy.active.part.staleLimit + s.policy.active.part.orphanLimit ≤ (s.pace.epoch - r.releaseEpoch).toNat := by
    unfold turnsOrphan turnsStale recordAge ageOf State.part
    simp only [Bool.and_eq_true, Bool.or_eq_true, decide_eq_true_eq]
    constructor
    · exact fun h => h.2
    · intro h; refine ⟨?_, h⟩
      by_cases hs : r.state = .stale
      · exact .inl hs
      · exact .inr ⟨hs, by omega⟩
  simp only [turnsStale_iff, h1]
  have h2 :
      (let marked := changed r.ex.key (fun x => { x with state := .stale }) s
      if generationTest s r.ex = true then
        { marked with slots := s.slots.set r.ex.slot.val (outstandingLowered (s.slot r.ex.slot)) }
      else marked) =
        if generationTest s r.ex = true then decrementOutstanding r.ex.slot (modOpen r.ex.key markStale s)
        else modOpen r.ex.key markStale s := by
    dsimp only
    split
    · rw [← outstandingLowered_eq]; rfl
    · rfl
  dsimp only at h2 ⊢
  rw [h2]
  rfl

/-! ### Withdrawals -/

/-- What withdrawing the commands of a list does: the DONEs that find a place, the others counted as lost, the withdrawn counter. -/
theorem foldl_withdrawOne_eq (i : SlotId) (q : List HeldRecord) (s : State) :
    q.foldl (withdrawOne i) s =
      { s with
        slots :=
          s.slots.set i.val
            { s.slot i with
              counters :=
                { (s.slot i).counters with withdrawn := (s.slot i).counters.withdrawn + BitVec.ofNat 32 q.length } }
        originQueue :=
          s.originQueue ++
            (q.map fun h => buildDone s.transportType h.frame .withdrawn).take (64 - s.originQueue.length)
        lostDone :=
          { s.lostDone with
            withdrawn := s.lostDone.withdrawn + BitVec.ofNat 32 (q.length - (64 - s.originQueue.length)) } } := by
  induction q generalizing s with
  | nil =>
    have h0 : ∀ c : Counter, c + BitVec.ofNat 32 0 = c := fun c => by simp
    have hs : s.slots.set i.val (s.slot i) = s.slots := by simp [State.slot]
    have e : s = { s with slots := s.slots.set i.val (s.slot i) } := by rw [hs]
    simp only [List.foldl_nil, List.length_nil, List.map_nil, List.take_nil, List.append_nil, Nat.zero_sub]
    rw [h0, h0]
    exact e
  | cons h t ih =>
    have hn : BitVec.ofNat 32 (t.length + 1) = 1 + BitVec.ofNat 32 t.length := by
      rw [BitVec.ofNat_add, BitVec.add_comm]; rfl
    rw [List.foldl_cons, ih]
    by_cases hs : s.originQueue.length < 64
    · have h1 : placeDone .withdrawn h.frame s =
          { s with originQueue := s.originQueue ++ [buildDone s.transportType h.frame .withdrawn] } := by
        rw [← doneSent_eq]; unfold doneSent; simp [hs]
      obtain ⟨m, hm⟩ : ∃ m, 64 - s.originQueue.length = m + 1 := ⟨63 - s.originQueue.length, by omega⟩
      have hm' : 64 - (s.originQueue.length + 1) = m := by omega
      unfold withdrawOne
      rw [h1]
      simp [State.countSlot, State.modSlot, State.setSlot, State.slot, State.transportType, hn, hm, hm', BitVec.add_assoc]
    · have h1 : placeDone .withdrawn h.frame s =
          { s with lostDone := { s.lostDone with withdrawn := s.lostDone.withdrawn + 1 } } := by
        rw [← doneSent_eq]; unfold doneSent; simp [hs]
      have hm : 64 - s.originQueue.length = 0 := by omega
      unfold withdrawOne
      rw [h1]
      simp [State.countSlot, State.modSlot, State.setSlot, State.slot, State.transportType, hn, hm, BitVec.add_assoc]

/-! ### Fields of the STAGE requests -/

theorem lies_eq (b i n lo hi) : lies b i n lo hi = rangeTest b i n lo hi := rfl

theorem liesWherePresent_eq (b i n lo hi) : [lies b i 1 0 1, liesWherePresent b i n lo hi] = optTests b i n lo hi := by
  unfold optTests liesWherePresent inRange byteAt
  rw [lies_eq]
  by_cases h : beNat b i 1 = 1 <;> simp [h]

theorem liesOrOff_eq (b i hi) : liesOrOff b i hi = offTest b i 0 hi := by
  unfold liesOrOff offTest inRange byteAt
  simp

theorem firstOut_eq (l) : firstOut l = firstBad l := by
  unfold firstOut
  induction l with
  | nil => rfl
  | cons x l ih =>
    obtain ⟨i, ok⟩ := x
    cases ok <;> simp [firstBad, ih]

theorem classNumbered_eq (v) : classNumbered v = classOfCode v := by
  unfold classNumbered classOfCode
  rcases v with _ | _ | _ | v <;> simp

theorem prescaleNumbered_eq (v) : prescaleNumbered v = prescaleOfCode v := by
  unfold prescaleNumbered prescaleOfCode
  rcases v with _ | _ | _ | v <;> simp

theorem modeNumbered_eq (v) : modeNumbered v = spoolModeOfCode v := by
  unfold modeNumbered spoolModeOfCode
  rcases v with _ | _ | _ | _ | _ | v <;> simp

theorem slotFields_eq (b) : slotFields b = slotTests b := by
  unfold slotFields slotTests
  rw [← liesWherePresent_eq, ← liesOrOff_eq]
  rfl

theorem slotStaged_eq (b) : slotStaged b = readSlotPolicy b := by
  unfold slotStaged readSlotPolicy
  rw [classNumbered_eq]
  rfl

theorem beNat_two_lt (b i) : beNat b i 2 < 65536 := by
  have h0 := (b.getD (i + 0) 0#8).isLt
  have h1 := (b.getD (i + 1) 0#8).isLt
  simp only [beNat]
  omega

theorem partFields_eq (b) : partFields b = partTests b := by
  have h := beNat_two_lt b 7
  unfold partFields partTests
  rw [← liesWherePresent_eq]
  have : (decide (0x0600 ≤ beNat b 7 2 ∧ beNat b 7 2 ≠ 0x8100)) =
      (inRange b 7 2 0x0600 0xFFFF && decide (beNat b 7 2 ≠ 0x8100)) := by
    unfold inRange
    rw [Bool.eq_iff_iff]
    simp only [decide_eq_true_eq, Bool.and_eq_true]
    omega
  rw [this]
  rfl

theorem partStaged_eq (b) : partStaged b = readPart b := by
  unfold partStaged readPart optField byteAt
  by_cases h : beNat b 3 1 = 0 <;> simp [h]

theorem costFields_eq (b) : costFields b = costTests b 0 ++ costTests b 3 ++ costTests b 6 ++ costTests b 9 := rfl

theorem costStaged_eq (b) : costStaged b = readCost b := rfl

theorem classesStaged_eq (b) : classesStaged b = readClasses b := rfl

theorem profileFields_eq (b) : profileFields b = profileTests b := rfl

theorem profileStaged_eq (b) (t : Vector Profile 16) (p : ProfileId) (h : profileOfByte (byteAt b 0) = some p) :
    profileStaged b t = t.set p.val (readProfile b) := by
  unfold profileOfByte byteAt at h
  split at h <;> simp only [Option.some.injEq, reduceCtorEq] at h
  subst h
  apply Vector.ext
  intro i hi
  simp only [profileStaged, Vector.getElem_ofFn, Vector.getElem_set]
  rfl

theorem trackerFields_eq (b) : trackerFields b = trackerTests b := rfl

theorem trackerStaged_eq (b) : trackerStaged b = readTracker b := rfl

theorem paceFields_eq (b) : paceFields b = paceTests b := by
  unfold paceFields paceTests meterTests
  rw [← liesOrOff_eq, ← liesOrOff_eq]
  rfl

theorem paceStaged_eq (b) : paceStaged b = readPace b := by
  unfold paceStaged readPace
  rw [prescaleNumbered_eq, prescaleNumbered_eq]
  rfl

theorem spoolStaged_eq (b) : spoolStaged b = readSpool b := by
  unfold spoolStaged readSpool
  rw [modeNumbered_eq]
  rfl

theorem routeStaged_eq (b) : routeStaged b = readRoute b := by
  unfold routeStaged readRoute optField byteAt
  by_cases h : beNat b 1 1 = 0 <;> simp [h]

theorem masked_iff (n : Nat) (m : BitVec 16) :
    BitVec.ofNat 16 n &&& m = 0#16 ↔ ∀ k, k < 16 → m.getLsbD k = true → n.testBit k = false := by
  constructor
  · intro e k hk hm
    have := congrArg (fun x : BitVec 16 => x.getLsbD k) e
    simpa only [BitVec.getLsbD_and, BitVec.getLsbD_ofNat, hm, hk, decide_true, Bool.true_and, Bool.and_true,
      Nat.zero_testBit] using this
  · intro h
    apply BitVec.eq_of_getLsbD_eq
    intro k hk
    rw [BitVec.getLsbD_and, BitVec.getLsbD_ofNat, BitVec.getLsbD_ofNat]
    cases hm : m.getLsbD k
    · simp
    · simp [h k hk hm]

theorem lt_4096_iff (n : Nat) (h : n < 65536) : n < 4096 ↔ ∀ k, 12 ≤ k → k < 16 → n.testBit k = false := by
  constructor
  · intro hn k hk _
    exact Nat.testBit_lt_two_pow (Nat.lt_of_lt_of_le hn (Nat.pow_le_pow_right (n := 2) (i := 12) (by omega) hk))
  · intro hb
    apply Nat.lt_pow_two_of_testBit (n := 12)
    intro k hk
    by_cases h16 : k < 16
    · exact hb k hk h16
    · exact Nat.testBit_lt_two_pow (Nat.lt_of_lt_of_le h (Nat.pow_le_pow_right (n := 2) (i := 16) (by omega) (by omega)))

theorem high_bits (k : Nat) (h : k < 16) :
    ((0xF000#16).getLsbD k = true ↔ 12 ≤ k) ∧ ((0xF001#16).getLsbD k = true ↔ k = 0 ∨ 12 ≤ k) := by
  have all : ∀ j : Fin 16,
      ((0xF000#16).getLsbD j.val = true ↔ 12 ≤ j.val) ∧ ((0xF001#16).getLsbD j.val = true ↔ j.val = 0 ∨ 12 ≤ j.val) := by
    decide
  exact all ⟨k, h⟩

theorem noticeMaskOk_iff (n) (h : n < 65536) : noticeMaskOk (BitVec.ofNat 16 n) = true ↔ n < 4096 := by
  unfold noticeMaskOk
  rw [decide_eq_true_eq, masked_iff, lt_4096_iff n h]
  exact ⟨fun e k hk hk16 => e k hk16 ((high_bits k hk16).1.mpr hk), fun e k hk hm => e k ((high_bits k hk).1.mp hm) hk⟩

theorem triggerMaskOk_iff (n) (h : n < 65536) : triggerMaskOk (BitVec.ofNat 16 n) = true ↔ n % 2 = 0 ∧ n < 4096 := by
  have h0 : n.testBit 0 = false ↔ n % 2 = 0 := by rw [Nat.testBit_zero, decide_eq_false_iff_not]; omega
  unfold triggerMaskOk
  rw [decide_eq_true_eq, masked_iff, lt_4096_iff n h, ← h0]
  constructor
  · intro e
    exact ⟨e 0 (by omega) ((high_bits 0 (by omega)).2.mpr (.inl rfl)),
      fun k hk hk16 => e k hk16 ((high_bits k hk16).2.mpr (.inr hk))⟩
  · rintro ⟨e0, e⟩ k hk hm
    rcases (high_bits k hk).2.mp hm with rfl | hk12
    · exact e0
    · exact e k hk12 hk

theorem spoolFields_eq (b) : spoolFields b = spoolTests b := by
  have : decide (beNat b 4 2 % 2 = 0 ∧ beNat b 4 2 < 4096) = triggerMaskOk (BitVec.ofNat 16 (beNat b 4 2)) := by
    rw [Bool.eq_iff_iff, decide_eq_true_eq, triggerMaskOk_iff _ (beNat_two_lt b 4)]
  unfold spoolFields spoolTests
  rw [this, ← liesOrOff_eq, ← liesOrOff_eq]
  rfl

theorem noticeFields_eq (b) : noticeFields b = noticeTests b := by
  unfold noticeFields noticeTests
  rw [← liesWherePresent_eq]
  have : decide (beNat b 5 2 < 4096) = noticeMaskOk (BitVec.ofNat 16 (beNat b 5 2)) := by
    rw [Bool.eq_iff_iff, decide_eq_true_eq, noticeMaskOk_iff _ (beNat_two_lt b 5)]
  rw [this]
  rfl

/-! ### Fields of the responses -/

theorem one_eq (v) : one v = byte v := by simp [one, byte, beBytes]

theorem oneIf_eq (f : Bool) : oneIf f = [flagByte f] := by cases f <;> rfl

theorem oneIndex_eq {n : Nat} (i : Option (Fin n)) : oneIndex i = [indexByte i] := by cases i <;> rfl

theorem policyReport_eq (p : SlotPolicy) : policyReport p = slotPolicyBytes p := by
  unfold policyReport slotPolicyBytes
  simp only [one_eq]
  cases p.cls <;> cases p.ceiling <;> cases p.batching <;> rfl

theorem slotReport_eq (x : Slot) : slotReport x = slotDynamicBytes x ++ slotCounterBytes x.counters := by
  unfold slotReport slotDynamicBytes slotCounterBytes counterBytes twosComplement Slot.depth
  simp only [one_eq, oneIf_eq]
  cases x.state <;> cases x.address <;> simp [SlotState.code, addressBytes, List.append_assoc]

theorem monitorReport_eq (m : Monitor) : monitorReport m = readMonitorFields m := by
  unfold monitorReport readMonitorFields trackerStateBytes lastEpochBytes calibrationBytes
  simp only [one_eq, oneIf_eq, oneIndex_eq]
  cases m.state <;> cases m.cal.status <;> simp [TrackerState.code, CalStatus.code, List.append_assoc]

theorem imageReport_eq (m : Image) : imageReport m = imageBytes m := by
  have hp : policyReport = slotPolicyBytes := funext policyReport_eq
  have ha : ∀ a : Option FabAddr, addressReport a = optBytes 3 (a.map BitVec.toNat) := by intro a; cases a <;> rfl
  have hz : ∀ v : Option Nat, one (v.getD 0) = zeroByte v := by intro v; cases v <;> simp [one_eq, zeroByte]
  have ho : ∀ v : Option Nat, one (v.getD 0xFF) = offByte v := by intro v; cases v <;> simp [one_eq, offByte]
  have hi : ∀ v : Option SlotId, oneIndex v = slotByte v := by intro v; cases v <;> simp [oneIndex, one_eq, slotByte]
  have hr : ∀ c : Prescale, prescaleNumber c = c.code := by intro c; cases c <;> rfl
  have hm : ∀ c : SpoolMode, modeNumber c = c.code := by intro c; cases c <;> rfl
  have hu : (if m.part.unlisted = .adopt then 0 else 1) = m.part.unlisted.code := by cases m.part.unlisted <;> rfl
  unfold imageReport imageBytes partBytes costBytes costEntryBytes classBytes trackerBytes paceBytes meterBytes spoolBytes
    routeBytes
  have hq : profileReport = profileBytes := by funext p; simp [profileReport, profileBytes, oneIf_eq]
  simp only [hp, ha, hz, ho, hi, hr, hm, hu, hq, one_eq, oneIf_eq]

theorem countersReport_eq (s : State) : countersReport s = partCounters s := rfl

end Sys2Proof.Machine
end

