-- ==== Sys2Proof/WellFormed.lean ====
section
/-! DEFINITION. When a command's operands fit its row: a frame row carries a frame with that kind's code in its transport
header (spec/01, "Kind codes and kind words"). `exec` does not depend on it: a frame is sorted by what it holds. -/

namespace Sys2Proof

/-- The frame is long enough for a transport header and bears the given kind code. -/
def frameOfKind (code : Nat) (f : Frame) : Bool :=
  decide (16 ≤ (Machine.payload f).length) && decide (Machine.kindCode f = code)

/-- A command whose operands fit its row. -/
def Instr.wellFormed : Instr → Bool
  | .command x => frameOfKind 0x01 x.frame
  | .ready f => frameOfKind 0x02 f
  | .data _ f => frameOfKind 0x03 f
  | .done f => frameOfKind 0x04 f
  | .abort f => frameOfKind 0x05 f
  | .hold f => frameOfKind 0x06 f
  | .mreqArrival f => frameOfKind 0x10 f
  | .powerOn | .rstN | .resetEnd _ _ _ | .linkUp _ | .linkDown _ | .frameReceive _ _ _ => true
  | .holdCountdownExpiry | .egressTake _ | .transmissionEnd _ | .epochBoundary _ | .calExpiry => true
  | .meterExpiry _ | .scanPass _ _ | .responsePlacement | .unknownKind | .queryPart | .stageSlot | .stagePart => true
  | .stageCost | .stageClass | .stageProfile | .stageTracker | .stagePace | .stageSpool | .stageNotice => true
  | .commit | .discard | .readStageDigest | .bind | .unbind | .suspend | .resume | .clearQuarantine => true
  | .readSlot | .readCounters | .readMonitor | .forceProfile | .releaseForce | .calibrate | .calibrateCancel => true
  | .spoolRead | .spoolTrigger | .spoolClear | .clearNotices | .setManagers | .rename | .resetPartFull => true
  | .resetPartTraffic | .fullReset | .trafficReset | .scanChannelStopped => true

end Sys2Proof
end

