-- ==== Sys2Proof/Tests/Slice0.lean ====
section
/-! SUPPORT. Tests: ill-formed commands, the spec's worked examples one step at a time, and for every statement with hypotheses
a state and operands that meet them. -/

namespace Sys2Proof.Machine

set_option Elab.async false

/-! ### Small frames and states -/

/-- A frame of transport type 0x88B5 with the given bytes after the EtherType. -/
def tFrame (bytes : List Byte) : Frame := { ethDst := 1#48, ethSrc := 2#48, rest := [0x88#8, 0xB5#8] ++ bytes }

/-- Header and body: kind, destination, source, tag, kind word, body. -/
def tKind (kind dst src tag : Nat) (word body : List Byte) : Frame :=
  tFrame (headerBytes kind (BitVec.ofNat 24 dst) (BitVec.ofNat 24 src) (BitVec.ofNat 16 tag) body.length word ++ body)

/-- A COMMAND from `src` to 100 of an operation code and a length. -/
def tCommand (src tag op len : Nat) : Frame := tKind 1 100 src tag (BitVec.ofNat 8 op :: 0#8 :: beBytes 2 len) []

/-- It arriving, its DONE first where it is turned away. -/
def tArrival (f : Frame) : Arrival := { frame := f, order := .doneFirst }

/-- A READY, DATA, DONE, ABORT and HOLD of the exchange of initiator 5 with tag 7. -/
def tReady (amount : Nat) : Frame := tKind 2 5 100 7 (0#8 :: 0#8 :: beBytes 2 amount) []

def tData (offset len : Nat) : Frame := tKind 3 100 5 7 (beBytes 4 offset) (List.replicate len 0#8)

def tDone (code : Byte) (sectors : Nat) : Frame := tKind 4 5 100 7 (code :: 0#8 :: beBytes 2 sectors) []

def tAbort : Frame := tKind 5 100 5 7 (beBytes 4 0) []

def tHold (pause : Nat) : Frame := tKind 6 0 0 0 (0#8 :: 0#8 :: beBytes 2 pause) []

/-- An MREQ from station 9 to the management address FDF000, with a good CRC. -/
def tRequest (kind : Nat) (fields : List Byte) : Frame :=
  tFrame
    (withCrc
      (headerBytes 0x10 0xFDF000#24 9#24 40#16 (fields.length + 2) [BitVec.ofNat 8 kind, 0#8, 0#8, 0#8] ++ fields))

/-- The same with a CRC of 0. -/
def tBadCrc (kind : Nat) (fields : List Byte) : Frame :=
  tFrame
    (headerBytes 0x10 0xFDF000#24 9#24 40#16 (fields.length + 2) [BitVec.ofNat 8 kind, 0#8, 0#8, 0#8] ++ fields ++
      [0#8, 0#8])

/-- A non-transport frame. -/
def tOther : Frame := { ethDst := 1#48, ethSrc := 2#48, rest := [0x08#8, 0x00#8, 0x45#8] }

/-- A state with one request in the buffer. -/
def asked (s : State) (req : Frame) : State := { s with agent := { s.agent with buffer := [req] } }

/-- The state right after reset with one request in the buffer. -/
def tAsk (kind : Nat) (fields : List Byte) : State := asked State.reset (tRequest kind fields)

/-- A WRITE of 64 sectors of initiator 5 with tag 7, in slot 0. -/
def tExchange : Exchange :=
  { key := { initiator := 5#24, tag := 7#16 }, slot := 0, gen := 0, op := .write, length := 64, admittedEpoch := 0, moved := 0 }

/-- It released, at cost 97. -/
def tOpen : OpenRecord :=
  { ex := tExchange, state := .released, cost := 97, releaseEpoch := 0, releaseStamp := 0, ready := none }

/-- It held. -/
def tHeld : HeldRecord := { ex := tExchange, frame := tCommand 5 7 2 64, promoted := false, starveNoted := false }

/-- Reset with the released record, slot 0's outstanding count 1. -/
def tOpenState : State :=
  { State.reset.modSlot 0 (fun x => { x with outstanding := 1 }) with
    tracker := { State.reset.tracker with released := [tOpen] } }

/-- Reset with the record STALE. -/
def tStaleState : State :=
  { State.reset with tracker := { State.reset.tracker with released := [{ tOpen with state := .stale, cost := 1 }] } }

/-- Reset with the record HELD in slot 0, a debt limit that lets it go. -/
def tHeldState : State := State.reset.modSlot 0 fun x => { x with queue := [tHeld] }

/-- The same under a target hold. -/
def tHeldPaused : State := setHoldTicks (some 50) tHeldState

/-- Reset with slot 3 in a given state, bound to address 5. -/
def tSlot3 (x : SlotState) : State := State.reset.modSlot 3 fun y => { y with state := x, address := some 5#24 }

/-- Reset with the Monitor FORCED on entry 5. -/
def tForced : State := State.reset.modMonitor fun m => { m with state := .forced, forced := some 5 }

/-- Changes both copies of profile 5's valid flag. -/
def withProfile5 (active staged : Bool) (s : State) : State :=
  { s with
    policy :=
      { s.policy with
        active := { s.policy.active with profiles := s.policy.active.profiles.set 5 { defaultProfile with valid := active } }
        staged :=
          { s.policy.staged with profiles := s.policy.staged.profiles.set 5 { defaultProfile with valid := staged } } } }

/-- Sets the pending-commit flag. -/
def withPending (s : State) : State := { s with policy := { s.policy with commitPending := true } }

/-- Sets the active spool settings. -/
def withSpool (c : SpoolSettings) (s : State) : State :=
  { s with policy := { s.policy with active := { s.policy.active with spool := c } } }

/-- An entry. -/
def tEntry (n : Nat) : SpoolEntry := .timeMark (BitVec.ofNat 32 n) 0#32

/-- The freeze example's settings: RING THEN STOP, watermark 6 with stop-on-watermark, post reserve 2, QUARANTINE in the mask. -/
def tFreeze : SpoolSettings :=
  { defaultSpoolSettings with
    mode := .ringThenStop, watermark := 6, stopOnWatermark := true, postReserve := 2, triggerMask := 0x0010#16
    summaryBatching := some 0 }

/-- The freeze example's start: PRE with six entries. -/
def tPre : State :=
  (withSpool tFreeze State.reset).modSpool fun x => { x with state := .pre, entries := (List.range 6).map tEntry }

/-- The state after a command; a stop leaves the state. -/
def after (c : Instr) (s : State) : State :=
  match exec c s with
  | .next t => t
  | .fault _ => s
  | .refused _ => s

/-! ### Ill-formed commands -/

theorem test_wf_command_refused : Instr.wellFormed (.command (tArrival (tReady 0))) = false := by decide +kernel
theorem test_wf_ready_refused : Instr.wellFormed (.ready tAbort) = false := by decide +kernel
theorem test_wf_data_refused : Instr.wellFormed (.data .f tAbort) = false := by decide +kernel
theorem test_wf_done_refused : Instr.wellFormed (.done tAbort) = false := by decide +kernel
theorem test_wf_abort_refused : Instr.wellFormed (.abort (tReady 0)) = false := by decide +kernel
theorem test_wf_hold_refused : Instr.wellFormed (.hold tAbort) = false := by decide +kernel
theorem test_wf_mreq_refused : Instr.wellFormed (.mreqArrival tAbort) = false := by decide +kernel
theorem test_wf_short_refused : Instr.wellFormed (.command (tArrival (tFrame [1#8, 1#8]))) = false := by decide +kernel
theorem test_wf_accepts :
    ([.command (tArrival (tCommand 5 7 2 64)), .ready (tReady 0), .data .f (tData 0 0), .done (tDone 0#8 0), .abort tAbort,
      .hold (tHold 0), .mreqArrival (tRequest 1 []), .powerOn] : List Instr).all Instr.wellFormed = true := by decide +kernel
theorem test_no_word_spells_a_command : decodeTableWord 16 0 = none := rfl
theorem test_fetch_word_changes_nothing : (State.reset.withFetchWord 16 5).pending = [] := rfl

/-! ### Bytes and frames -/

/-- The check value of this CRC-16 over the digits 1 to 9. -/
theorem test_crc16_digits :
    crc16 [0x31#8, 0x32#8, 0x33#8, 0x34#8, 0x35#8, 0x36#8, 0x37#8, 0x38#8, 0x39#8] = 0x29B1#16 := by decide +kernel

/-- A COMMAND written out byte by byte: WRITE of 64 sectors with tag 77 from 0A3300 to 000064. -/
theorem test_command_bytes :
    tKind 1 0x64 0x0A3300 77 [0x02#8, 0#8, 0#8, 0x40#8] [] =
      tFrame [0x01#8, 0x01#8, 0x00#8, 0x00#8, 0x64#8, 0x0A#8, 0x33#8, 0x00#8, 0x00#8, 0x4D#8, 0x00#8, 0x00#8, 0x02#8, 0x00#8,
        0x00#8, 0x40#8] := by decide +kernel

/-- The fields read back, and a VLAN tag stepped over. -/
theorem test_fields_read :
    headerOk (tCommand 5 7 2 64) = true ∧ srcAddr (tCommand 5 7 2 64) = 5#24 ∧ tagOf (tCommand 5 7 2 64) = 7#16 ∧
      word2 (tCommand 5 7 2 64) = 64 ∧
      isTransport 0x88B5#16
          { tOther with rest := [0x81#8, 0x00#8, 0#8, 1#8, 0x88#8, 0xB5#8] } = true ∧
      isTransport 0x88B5#16
          { tOther with rest := [0x81#8, 0x00#8, 0#8, 1#8, 0x81#8, 0x00#8, 0#8, 2#8, 0x88#8, 0xB5#8] } = false := by
  decide +kernel

/-- The header check: a length of 2049, a wrong version, a body length that the bytes do not meet. -/
theorem test_header_check_fails :
    headerOk (tCommand 5 7 2 2049) = false ∧ headerOk (tCommand 5 7 3 1) = false ∧ headerOk (tCommand 5 7 5 0) = false ∧
      headerOk (tFrame (tCommand 5 7 2 64).rest) = false ∧ headerOk (tFrame ((tCommand 5 7 2 64).rest.drop 2 ++ [0#8])) = false := by
  decide +kernel

/-- A part-made DONE replies to its COMMAND: addresses swapped, the code, no sectors (R18). -/
theorem test_done_built :
    buildDone 0x88B5#16 (tCommand 5 7 2 64) .withdrawn =
      { ethDst := 2#48, ethSrc := 1#48
        rest := [0x88#8, 0xB5#8] ++
          [0x04#8, 0x01#8, 0#8, 0#8, 5#8, 0#8, 0#8, 100#8, 0#8, 7#8, 0#8, 0#8, 0x83#8, 0#8, 0#8, 0#8] } := by decide +kernel

/-! ### Worked examples, one step each -/

/-- R66: the costs under the default table. -/
theorem test_default_costs :
    commandCost defaultCostTable .read 64 = 65 ∧ commandCost defaultCostTable .write 64 = 97 ∧
      commandCost defaultCostTable .flush 0 = 16 ∧ commandCost defaultCostTable .admin 0 = 4 := by decide +kernel

/-- A COMMAND admitted to the commons passes through at once: its cost is charged and its frame stands in the release slot. -/
theorem test_command_released_at_once :
    let t := after (.command (tArrival (tCommand 5 7 2 64))) State.reset
    t.releaseSlot = some (tCommand 5 7 2 64) ∧ (t.slot 0).balance = -97 ∧ (t.slot 0).outstanding = 1 ∧
      t.sched.pieUsed = 97 ∧ (t.slot 0).counters.admitted = 1 ∧ (t.slot 0).counters.released = 1 ∧
      t.sched.ringBulk = 0 := by decide +kernel

/-- One place left in the origin queue: the DONE takes it and the NOTICE is lost, or the NOTICE takes it and the DONE is lost. -/
theorem test_turn_away_orders :
    let r : NoticeRoute := { address := some 9#24, mask := 0xFFFF#16 }
    let s := { State.reset with
      originQueue := List.replicate 63 tOther
      policy := { State.reset.policy with active := { State.reset.policy.active with routeA := r } } }
    let d := turnAway .doneFirst .refusedUnlisted (tCommand 5 7 2 64) s
    let n := turnAway .noticeFirst .refusedUnlisted (tCommand 5 7 2 64) s
    (d.lostDone.refusedUnlisted = 0 ∧ d.agent.noticesLost = 1 ∧ d.originQueue.length = 64) ∧
      (n.lostDone.refusedUnlisted = 1 ∧ n.agent.noticesLost = 0 ∧ n.originQueue.length = 64) := by decide +kernel

/-- The write exchange's end: latency 1850, outstanding lowered, the record freed, the DONE forwarded. -/
theorem test_done_closes :
    let s := { tOpenState with pace := { tOpenState.pace with time := 1850#32 } }
    let t := after (.done (tDone 0#8 64)) s
    t.monitor.latencySum = 1850 ∧ t.monitor.completed = 64 ∧ t.monitor.count = 1 ∧ (t.slot 0).outstanding = 0 ∧
      t.tracker.released = [] ∧ t.portF.forwarded = [tDone 0#8 64] ∧ (t.slot 0).counters.sectorsCompleted = 64 := by
  decide +kernel

/-- The resent DATA at offset 60 is an overlength write, the one at 48 is not (16 sectors each). -/
theorem test_overlength :
    overlength .f (tData 60 8192) tOpen = true ∧ overlength .f (tData 48 8192) tOpen = false := by decide +kernel

/-- The capture burst: the third admission brings the meter to its threshold, and it stops with its report waiting. -/
theorem test_meter_expires_at_threshold :
    tallyMeter { binding := some 2, threshold := 3, liftAmount := 200, liftEpochs := 2 } 2
        { count := 1, run := .running, due := [] } =
      { count := 3, run := .stopped, due := [{ slot := 2, liftAmount := 200, liftEpochs := 2 }] } := by decide +kernel

/-- The unanswered read: at an age of 5120 the pass turns the record STALE and lowers outstanding. -/
theorem test_stale_at_pass :
    let s := { tOpenState with pace := { tOpenState.pace with epoch := 5120#32 } }
    let t := after (.scanPass .afterWalk .afterWalk) s
    t.tracker.released.map (fun r => r.state) = [.stale] ∧ (t.slot 0).outstanding = 0 := by decide +kernel

/-- The profile example, epoch 5: with lock count 3 and a run of 2 the match on entry 5 locks it. -/
theorem test_profile_locks :
    let s := withProfile5 true true State.reset
    let p := { defaultProfile with valid := true, rateLow := 400, rateHigh := 1100, latencyCeiling := 5000, budget := 1000 }
    let s1 :=
      { s with
        policy :=
          { s.policy with
            active :=
              { s.policy.active with
                profiles := s.policy.active.profiles.set 5 p
                tracker := { defaultTrackerParams with lockCount := 3 } } }
        monitor := { s.monitor with candidate := some 5, run := 2 } }
    let x : Measurement :=
      { epoch := 5, completed := 980, count := 14, latencySum := 42000, holdSpan := 40, pie := 65535, pieUsed := 1000
        saturated := true, length := 200, outstanding := 0, answered := true }
    (closeEpoch x s1).monitor.state = .locked ∧ (closeEpoch x s1).monitor.selected = some 5 ∧
      noticeFlag (closeEpoch x s1).agent.flags .profileChange = true := by decide +kernel

/-- CAL's last expiry taken ahead of the boundary's close: COMPLETE is read with one epoch run of two; the close then adds the
second. -/
theorem test_cal_expiry_ahead :
    let s := { State.reset with
      pace := { State.reset.pace with epoch := 2, cal := { State.reset.pace.cal with count := 1, run := .running, reload := 2 } }
      monitor :=
        { State.reset.monitor with
          cal := { resetCalibration with status := .running, requested := 2, firstEpoch := 1, run := 1, budget := 9 } } }
    let t := takeCalExpiry s
    let u := epochBoundary .afterPay t
    (t.monitor.cal.status = .complete ∧ t.monitor.cal.run = 1 ∧ t.pace.epoch = 3 ∧ t.pace.cal.run = .stopped) ∧
      (u.monitor.cal.run = 2 ∧ u.pace.epoch = 3 ∧ u.pace.cal.due = false ∧ u.pace.opened = none ∧ u.pace.cal.run = .stopped ∧
        u.sched.pie = 65535) := by
  decide +kernel

/-- CAL's last count at the next boundary, a countdown that ends its hold at the next tick, 40 of the pie used. -/
def tLastEpoch : State :=
  let s := setHoldTicks (some 1) tHeldState
  { s with
    pace := { s.pace with epoch := 2, cal := { s.pace.cal with count := 1, run := .running } }
    sched := { s.sched with pieUsed := 40 } }

/-- A release between CAL's expiry and the close that it came ahead of is the opened epoch's: its charge, its number, its slot's
released this epoch. The closing epoch's report keeps the 40 used and the backlog. -/
theorem test_release_after_opening :
    let u := after .holdCountdownExpiry (takeCalExpiry tLastEpoch)
    let v := epochBoundary .afterPay u
    (takeCalExpiry tLastEpoch).sched.pieUsed = 0 ∧ u.tracker.released.map (·.releaseEpoch) = [3] ∧ u.pace.epoch = 3 ∧
      u.sched.pieUsed = 97 ∧ (u.slot 0).releasedEpoch = 97 ∧ v.sched.pieUsed = 97 ∧ v.monitor.last.pieUsed = 40 ∧
      v.monitor.last.saturated = true := by decide +kernel

/-- The same release taken before the boundary is opened is the closing epoch's, in the report and by its number. -/
theorem test_release_before_opening :
    let u := takeCalExpiry (after .holdCountdownExpiry tLastEpoch)
    let v := epochBoundary .afterPay u
    u.tracker.released.map (·.releaseEpoch) = [2] ∧ u.pace.epoch = 3 ∧ u.sched.pieUsed = 0 ∧ (u.slot 0).releasedEpoch = 0 ∧
      v.sched.pieUsed = 0 ∧ v.monitor.last.pieUsed = 137 := by decide +kernel

/-- An expiry of the hold countdown that stands behind a HOLD which restarts it does not happen. -/
theorem test_hold_restarted_does_not_expire :
    let s := setHoldTicks (some 1) tHeldState
    (after .holdCountdownExpiry s).sched.holdTicks = none ∧ (after .holdCountdownExpiry s).releaseSlot ≠ none ∧
      (after .holdCountdownExpiry (after (.hold (tHold 3)) s)).sched.holdTicks = some 30 ∧
      (after .holdCountdownExpiry (after (.hold (tHold 3)) s)).releaseSlot = none := by decide +kernel

/-- The freeze example: the QUARANTINE record rings out E1, its trigger leaves two places, the TRIGGER record follows. -/
theorem test_freeze_trigger :
    let t := offerEvent .quarantine (some 7) 4#32 tPre
    t.spool.state = .post ∧
      t.spool.entries =
        [tEntry 3, tEntry 4, tEntry 5, .event .quarantine (some 7) 4#32 0#32 0#32,
          .event .trigger (some 7) 0x04000000#32 0#32 0#32] := by decide +kernel

/-- The freeze example: the record that fills the spool freezes it. -/
theorem test_freeze_when_full :
    let s := tPre.modSpool fun x => { x with state := .post, entries := (List.range 5).map tEntry }
    (offerRecord (tEntry 9) s).1.spool.state = .frozen ∧ noticeFlag (offerRecord (tEntry 9) s).1.agent.flags .spoolFrozen = true ∧
      noticeFlag (offerRecord (tEntry 9) s).1.agent.flags .watermark = true := by decide +kernel

/-- The compression example, step 3: a DELTA of -520, -2, +2, +512, +256. -/
theorem test_delta_changes :
    slotChanges { balance := 120, depth := 3, outstanding := 2, released := 128, completed := 0 }
        { balance := -400, depth := 1, outstanding := 4, released := 640, completed := 256 } = [-520, -2, 2, 512, 256] ∧
      (SpoolEntry.slotDelta 5 [-520, -2, 2, 512, 256]).bytes.length = 16 := by decide +kernel

/-- The policy example: hold limit 300 is refused at offset 12, and nothing is written. -/
theorem test_stage_slot_bad_field :
    firstBad (slotTests ([12#8, 3#8, 1#8, 0#8, 0#8, 0x10#8, 0#8, 0#8, 0#8, 0#8, 8#8, 0#8, 1#8, 0x2C#8, 16#8, 0xFF#8])) =
      some 12 := by decide +kernel

/-- The default slot policy encodes as STAGE SLOT carries it, and reads back. -/
theorem test_slot_policy_bytes :
    slotPolicyBytes defaultSlotPolicy = [3#8, 1#8, 0#8, 0#8, 0x10#8, 0#8, 0#8, 0#8, 0#8, 8#8, 0#8, 0#8, 32#8, 16#8, 0xFF#8] ∧
      readSlotPolicy (0#8 :: slotPolicyBytes defaultSlotPolicy) = defaultSlotPolicy := by decide +kernel

/-- Group sizes of R151. -/
theorem test_group_sizes :
    (partBytes defaultPartValues).length = 17 ∧ (costBytes defaultCostTable).length = 12 ∧
      (classBytes defaultClassTable).length = 4 ∧ (profileBytes defaultProfile).length = 11 ∧
      (trackerBytes defaultTrackerParams).length = 8 ∧ (paceBytes defaultPaceSettings).length = 18 ∧
      (spoolBytes defaultSpoolSettings).length = 14 ∧ (routeBytes defaultRoute).length = 6 := by decide +kernel

/-- READ SLOT reports 80 bytes, READ COUNTERS 120, READ MONITOR 44. -/
theorem test_read_sizes :
    (readSlotFields 0 State.reset).length = 80 ∧ ((partCounters State.reset).flatMap counterBytes).length = 120 ∧
      (readMonitorFields State.reset.monitor).length = 44 := by decide +kernel

/-- The full origin queue: the SUSPEND is taken at once and its response waits. -/
theorem test_response_waits :
    let s := { asked (tSlot3 .bound) (tRequest 0x32 [3#8]) with originQueue := List.replicate 64 tOther }
    let t := after .suspend s
    (t.slot 3).state = .suspended ∧ t.agent.waiting.isSome = true ∧ t.agent.buffer.length = 1 ∧ t.originQueue.length = 64 := by
  decide +kernel

/-- The epoch example: the boundary that applies a new reload still loads the old one. -/
theorem test_epoch_length_lags :
    let s := { State.reset with
      policy :=
        { State.reset.policy with
          commitPending := true
          staged := { defaultImage with pace := { defaultPaceSettings with epochReload := 400 } } } }
    let t := openBoundary s
    t.pace.epochPair.count = 200 ∧ t.pace.openLength = 200 ∧ t.policy.active.pace.epochReload = 400 ∧
      (openBoundary t).pace.openLength = 400 := by decide +kernel

/-- The first boundary comes 200 ticks after reset: one tick before it, the tick posts it. -/
theorem test_tick_posts_boundary :
    let s := { State.reset with pace := { State.reset.pace with epochPair := { State.reset.pace.epochPair with count := 1 } } }
    (idle s).pending.length = 1 ∧ (idle s).pace.time = 1 ∧ (idle State.reset).pace.epochPair.count = 199 := by decide +kernel

/-! ### Witnesses: for every statement with hypotheses, states and operands that meet them -/

/-- A state that still lies in reset. -/
def tInReset : State := State.held 0 []

/-- The state with both links DOWN. -/
def tDown : State :=
  { State.reset with portF := { State.reset.portF with link := .down }, portT := { State.reset.portT with link := .down } }

/-- The state with a frame under transmission on each port. -/
def tSending (x : EgressSource) : State :=
  { State.reset with
    portF := { State.reset.portF with sending := some (tOther, x) }
    portT := { State.reset.portT with sending := some (tOther, x) } }

/-- The state with a frame in every egress source, and the turn of both ports. -/
def tEgress (x : EgressSource) : State :=
  { State.reset with
    portF := { State.reset.portF with forwarded := [tOther], turn := x }
    portT := { State.reset.portT with forwarded := [tOther], turn := x }
    originQueue := [tAbort], releaseSlot := some tAbort }

/-- The state with other active part values. -/
def withPart (g : PartValues → PartValues) (s : State) : State :=
  { s with policy := { s.policy with active := { s.policy.active with part := g s.policy.active.part } } }

/-- The state with so many records in the released list, of exchanges of other initiators. -/
def tPool (n : Nat) : State :=
  { State.reset with
    tracker :=
      { State.reset.tracker with
        released := List.replicate n { tOpen with ex := { tExchange with key := { initiator := 6#24, tag := 7#16 } } } } }

/-- The five slot states. -/
def tStates : List SlotState := [.vacant, .bound, .suspended, .quarantined, .draining]

/-- The request, oldest in the buffer of `s`, passes the frame checks of the kind with this code. -/
abbrev Asks (code : Nat) (fields : List Byte) (s : State) : Prop :=
  Sound (asked s (tRequest code fields)) (tRequest code fields) code fields.length

theorem witness_StepRunsFrontCommand : ({ State.reset with pending := [.rstN, .powerOn] } : State).pending = .rstN :: [.powerOn] := rfl

/-- Two waiting expiries. -/
def tDue : State :=
  { State.reset with
    pace :=
      { State.reset.pace with
        cal := { State.reset.pace.cal with due := true }
        meterA := { State.reset.pace.meterA with due := [{ slot := 127, liftAmount := 16383, liftEpochs := 255 }] }
        meterB := { State.reset.pace.meterB with due := [{ slot := 0, liftAmount := 0, liftEpochs := 1 }] } } }

/-- The two tick-counting channels at their last count, the scan channel with a run state and a count. -/
def tLastTick (x : RunState) (n : Nat) : State :=
  { State.reset with
    pace :=
      { State.reset.pace with
        epochPair := { State.reset.pace.epochPair with count := 1 }
        scan := { State.reset.pace.scan with run := x, phase := 4095, count := n }
        cal := { State.reset.pace.cal with run := .running, count := 1 } } }

/-- The closing report of an epoch that used 5 of its pie of 7 and left a backlog. -/
def tReport : ClosingReport := { pie := 7, pieUsed := 5, backlog := true }

/-- A boundary that stands opened. -/
def tOpened : State := { State.reset with pace := { State.reset.pace with epoch := 1, opened := some tReport } }

theorem witness_EmptyQueueTick :
    (tInReset.pending = [] ∧ tInReset.inReset = true) ∧ (tDue.pending = [] ∧ tDue.inReset = false ∧ Waits tDue.pace) ∧
      (tOpened.pending = [] ∧ tOpened.inReset = false ∧ Waits tOpened.pace) ∧
      (State.reset.pending = [] ∧ State.reset.inReset = false ∧ ¬ Waits State.reset.pace ∧ State.reset.sched.holdTicks = none) ∧
      ((setHoldTicks (some 2) State.reset).pending = [] ∧ ¬ Waits (setHoldTicks (some 2) State.reset).pace ∧
        (setHoldTicks (some 2) State.reset).sched.holdTicks = some 2) := by decide +kernel

/-- A tick at which every event comes: the boundary with CAL's last count, a pass or a stop, the countdown's end. -/
theorem witness_EmptyQueueTick_events :
    ∀ x ∈ [RunState.running, .stopping], ∀ n ∈ [1, 2],
      let s := setHoldTicks (some 1) (tLastTick x n)
      s.pending = [] ∧ s.inReset = false ∧ ¬ Waits s.pace ∧ CountComes s.pace.epochPair ∧ s.pace.epochPair.count ≤ 1 ∧
        LastCountNext s.pace.cal ∧ CountComes s.pace.scan ∧ s.pace.scan.count = n ∧ s.pace.scan.run = x := by decide +kernel

theorem witness_ResetEndStartsThePart : tInReset.inReset = true := rfl

theorem witness_LinkEvents :
    (State.reset.inReset = false ∧ (State.reset.port .f).link = .up ∧ (State.reset.port .t).link = .up ∧
        State.reset.portF.sending = none ∧ State.reset.portT.sending = none) ∧
      (tDown.inReset = false ∧ (tDown.port .f).link = .down ∧ (tDown.port .t).link = .down) ∧
      ((tSending .forwarded).portF.link = .up ∧ (tSending .forwarded).portF.sending = some (tOther, .forwarded) ∧
        (tSending .forwarded).portT.sending = some (tOther, .forwarded)) ∧
      ((tSending .own).inReset = false ∧ (tSending .own).portF.link = .up ∧ (tSending .own).portF.sending = some (tOther, .own) ∧
        (tSending .own).portT.sending = some (tOther, .own)) := by decide +kernel

theorem witness_EgressTakes :
    ∀ x ∈ [EgressSource.forwarded, .own],
      (tEgress x).inReset = false ∧ (tEgress x).portT.sending = none ∧ (tEgress x).portF.sending = none ∧
        (tEgress x).portT.forwarded = tOther :: [] ∧ (tEgress x).portF.forwarded = tOther :: [] ∧
        (tEgress x).releaseSlot = some tAbort ∧ (tEgress x).originQueue = tAbort :: [] ∧ (tEgress x).portT.turn = x ∧
        (tEgress x).portF.turn = x := by decide +kernel

theorem witness_TransmissionEnds :
    (tSending .own).inReset = false ∧ (tSending .own).portF.sending = some (tOther, .own) ∧
      (tSending .own).portT.sending = some (tOther, .own) := by decide +kernel

/-- The target is station 100, and then another. -/
def tTarget (a : FabAddr) : State := withPart (fun x => { x with target := some a }) State.reset

theorem witness_SorterTable :
    (isTransport State.reset.transportType tOther = false) ∧
      (isTransport State.reset.transportType (tCommand 5 7 2 2049) = true ∧ headerOk (tCommand 5 7 2 2049) = false) ∧
      (isTransport State.reset.transportType (tCommand 5 7 2 2048) = true ∧ headerOk (tCommand 5 7 2 2048) = true ∧
        kindCode (tCommand 5 7 2 2048) = 0x01 ∧ State.reset.part.target = none ∧
        (tTarget 100#24).part.target = some (dstAddr (tCommand 5 7 2 64)) ∧ (tTarget 101#24).part.target ≠ none ∧
        (tTarget 101#24).part.target ≠ some (dstAddr (tCommand 5 7 2 64))) ∧
      (headerOk (tReady 0) = true ∧ kindCode (tReady 0) = 0x02 ∧ headerOk (tDone 0#8 0) = true ∧ kindCode (tDone 0#8 0) = 0x04 ∧
        headerOk tAbort = true ∧ kindCode tAbort = 0x05 ∧ headerOk (tHold 0) = true ∧ kindCode (tHold 0) = 0x06) ∧
      (headerOk (tRequest 1 []) = true ∧ kindCode (tRequest 1 []) = 0x10 ∧ dstAddr (tRequest 1 []) = State.reset.agent.address ∧
        headerOk (tKind 0x10 0 9 1 [1#8, 0#8, 0#8, 0#8] [0#8, 0#8]) = true ∧
        dstAddr (tKind 0x10 0 9 1 [1#8, 0#8, 0#8, 0#8] [0#8, 0#8]) ≠ State.reset.agent.address) ∧
      (headerOk (tKind 0x11 5 9 1 [0#8, 0#8, 0#8, 0#8] []) = true ∧ kindCode (tKind 0x11 5 9 1 [0#8, 0#8, 0#8, 0#8] []) = 0x11) := by
  decide +kernel

/-- An ABORT behind a VLAN tag, padded to 46 bytes after the EtherType; and a tag that ends before its four bytes do. -/
theorem witness_SorterTable_tagged :
    (let f := { tAbort with rest := [0x81#8, 0x00#8, 0#8, 1#8] ++ tAbort.rest ++ List.replicate 30 0#8 };
      f.rest.length = 4 + 2 + 46 ∧ isTransport State.reset.transportType f = true ∧ headerOk f = true ∧ kindCode f = 0x05) ∧
      (let f := { tAbort with rest := [0x81#8, 0x00#8, 0#8] };
        ¬ 4 ≤ f.rest.length ∧ isTransport State.reset.transportType f = false) := by decide +kernel

/-- The lookup rows: a held key, a released key, a key of no live record, each in a state of unique keys. -/
theorem witness_SorterTable_lookups :
    (KeysUnique tHeldState ∧ tHeld ∈ (tHeldState.slot 0).queue ∧ KeysUnique tOpenState ∧ tOpen ∈ tOpenState.tracker.released ∧
        KeysUnique State.reset ∧ tHeld.ex.key ∉ liveKeys State.reset) ∧
      (kindCode (tData 0 512) = 0x03 ∧ headerOk (tData 0 512) = true ∧
        tHeld.ex.key = { initiator := srcAddr (tData 0 512), tag := tagOf (tData 0 512) }) ∧
      (kindCode tAbort = 0x05 ∧ tOpen.ex.key = { initiator := srcAddr tAbort, tag := tagOf tAbort }) ∧
      (kindCode (tDone 0#8 0) = 0x04 ∧ tOpen.ex.key = { initiator := dstAddr (tDone 0#8 0), tag := tagOf (tDone 0#8 0) }) := by
  decide +kernel

theorem witness_FrameReceiveForwards :
    Arrives State.reset .f tOther .pass ∧ Arrives State.reset .t tOther .pass ∧
      Arrives State.reset .f (tCommand 5 7 2 2049) .malformed ∧ Arrives State.reset .t (tCommand 5 7 2 64) .unscheduled ∧
      Arrives (tTarget 101#24) .f (tCommand 5 7 2 64) .unscheduled ∧ Arrives State.reset .f (tReady 0) .unmatched ∧
      Arrives State.reset .t (tDone 0#8 0) .unmatched ∧ Arrives State.reset .t (tRequest 1 []) .misported := by decide +kernel

/-- Slot 3 in a state, bound to address 5, in which the COMMAND of initiator 5 finds it. -/
theorem witness_CommandChecksInOrder :
    (let s := withPart (fun x => { x with unlisted := .refuse }) State.reset;
      Arrives s .f (tCommand 5 7 2 64) .admission ∧ slotFor s 5#24 = none) ∧
      (∀ x ∈ [SlotState.quarantined, .draining, .bound, .suspended],
        Arrives (tSlot3 x) .f (tCommand 5 7 2 64) .admission ∧
          slotFor (tSlot3 x) (srcAddr (tCommand 5 7 2 64)) = some 3 ∧ ((tSlot3 x).slot 3).state = x) ∧
      (Arrives tOpenState .f (tCommand 5 7 2 64) .admission ∧ slotFor tOpenState 5#24 = some 0 ∧
        (tOpenState.slot 0).state = .bound ∧ keyLive tOpenState { initiator := 5#24, tag := 7#16 } = true) ∧
      (let s := State.reset.modSlot 0 fun x => { x with queue := List.replicate 32 tHeld };
        Arrives s .f (tCommand 5 8 2 64) .admission ∧ slotFor s 5#24 = some 0 ∧ (s.slot 0).state = .bound ∧
          keyLive s { initiator := 5#24, tag := 8#16 } = false ∧ (s.slotPolicy 0).holdLimit = (s.slot 0).depth) := by
  decide +kernel

/-- The pool at the feed reserve's edge: 960 live records leave 64. -/
theorem witness_CommandChecksInOrder_pool :
    (let s := tPool 960;
      Arrives s .f (tCommand 5 7 2 64) .admission ∧ slotFor s 5#24 = some 0 ∧ (s.slot 0).state = .bound ∧
        keyLive s { initiator := 5#24, tag := 7#16 } = false ∧ (s.slot 0).depth < (s.slotPolicy 0).holdLimit ∧
        (s.slotPolicy 0).cls ≠ .feed ∧ liveCount s + s.part.feedReserve = 1024) ∧ liveCount (tPool 1024) = 1024 := by
  decide +kernel

theorem witness_CommandAdmitted :
    let s := tPool 959
    Arrives s .f (tCommand 5 7 2 64) .admission ∧ slotFor s (srcAddr (tCommand 5 7 2 64)) = some 0 ∧ (s.slot 0).state = .bound ∧
      keyLive s { initiator := srcAddr (tCommand 5 7 2 64), tag := tagOf (tCommand 5 7 2 64) } = false ∧
      (s.slot 0).depth < (s.slotPolicy 0).holdLimit ∧ liveCount s < 1024 ∧ liveCount s + s.part.feedReserve = 1023 ∧
      opOfCode (word0 (tCommand 5 7 2 64)) = some .write := by decide +kernel

/-- A threshold of 1 and of 256. -/
theorem witness_CommandAdmitted_meter :
    ∀ n ∈ [1, 256],
      let c : MeterSettings := { defaultMeterSettings with binding := some 127, threshold := n }
      c.binding = some 127 ∧ 1 ≤ c.threshold ∧ 0 < c.threshold := by decide

/-- The release slot full; empty with no eligible head; empty with one that its debt limit just lets go. -/
theorem witness_ReleaseDecision :
    (tEgress .own).releaseSlot ≠ none ∧ (State.reset.releaseSlot = none ∧ ∀ i : SlotId, (State.reset.slot i).queue.head? = none) ∧
      (let s := tHeldState.modSlot 0 fun x => { x with balance := -1951 };
        s.releaseSlot = none ∧ (s.slot 0).queue.head? = some tHeld ∧ (s.slot 0).state = .bound ∧ s.sched.holdTicks = none ∧
          s.portT.link = .up ∧ (s.slot 0).outstanding < (s.slotPolicy 0).concurrency ∧ (s.slotPolicy 0).ceiling = none ∧
          s.sched.pieUsed + costOf s tHeld ≤ s.sched.pie ∧
          -((s.slotPolicy 0).debtLimit : Int) = (s.slot 0).balance - costOf s tHeld) := by decide +kernel

theorem witness_ReadyRecordsAmount :
    kindCode (tReady 32) = 0x02 ∧ Arrives tOpenState .t (tReady 32) (.released tOpen) ∧
      Arrives tHeldState .t (tReady 32) (.held 0 tHeld) := by decide +kernel

/-- The overlength edge: 512 bytes at offset 63 are within the 64 sectors, 513 are not. -/
theorem witness_DataCountsSectors :
    kindCode (tData 63 513) = 0x03 ∧ Arrives tOpenState .f (tData 63 512) (.released tOpen) ∧
      Arrives tOpenState .f (tData 63 513) (.released tOpen) ∧ Arrives tHeldState .f (tData 0 512) (.held 0 tHeld) ∧
      overlength .f (tData 63 512) tOpen = false ∧ overlength .f (tData 63 513) tOpen = true ∧
      generationTest tOpenState tOpen.ex = true := by decide +kernel

theorem witness_DoneClosesRecord :
    kindCode (tDone 0#8 64) = 0x04 ∧ Arrives tOpenState .t (tDone 0#8 64) (.released tOpen) ∧ tOpen.state ≠ .stale ∧
      generationTest tOpenState tOpen.ex = true := by decide +kernel

/-- A late DONE with a refund of 0 and, on an error, above 0; a DONE whose slot has gone on to the next generation. -/
theorem witness_LateAndAnomalousDone :
    (let r := { tOpen with state := .stale, cost := 97 };
      let s := { tStaleState with tracker := { tStaleState.tracker with released := [r] } };
      kindCode (tDone 0#8 64) = 0x04 ∧ kindCode (tDone 1#8 0) = 0x04 ∧ Arrives s .t (tDone 0#8 64) (.released r) ∧
        Arrives s .t (tDone 1#8 0) (.released r) ∧ r.state = .stale ∧ generationTest s r.ex = true ∧
        refunded s.policy.active.cost r (word0 (tDone 0#8 64)) 64 = 0 ∧
        0 < refunded s.policy.active.cost r (word0 (tDone 1#8 0)) 0) ∧
      (let s := tOpenState.modSlot 0 fun x => { x with gen := 1 };
        Arrives s .t (tDone 0#8 64) (.released tOpen) ∧ generationTest s tOpen.ex = false) ∧
      Arrives tHeldState .t (tDone 0#8 64) (.held 0 tHeld) := by decide +kernel

theorem witness_AbortTakes :
    kindCode tAbort = 0x05 ∧ Arrives tOpenState .f tAbort (.released tOpen) ∧ Arrives tHeldState .f tAbort (.held 0 tHeld) := by
  decide +kernel

theorem witness_HoldAndCountdown :
    (∀ n ∈ [0, 1, 65535], Arrives State.reset .t (tHold n) .hold ∧ Arrives tHeldPaused .t (tHold n) .hold) ∧
      (∀ n ∈ [0, 1, 2, 655350],
        (setHoldTicks (some n) State.reset).inReset = false ∧ (setHoldTicks (some n) State.reset).sched.holdTicks = some n) ∧
      (tHeldPaused.inReset = false ∧ tHeldPaused.sched.holdTicks ≠ none) ∧
      (State.reset.inReset = false ∧ State.reset.sched.holdTicks = none) := by decide +kernel

/-- Reset with a calibration of so many epochs RUNNING from epoch 1. -/
def tRunning (n : Nat) : State :=
  { State.reset with
    monitor :=
      { State.reset.monitor with
        cal := { State.reset.monitor.cal with status := .running, firstEpoch := 1, requested := n } } }

/-- Changes the active pace settings. -/
def withPace (c : PaceSettings) (s : State) : State :=
  { s with policy := { s.policy with active := { s.policy.active with pace := c } } }

/-- A boundary with a commit pending and a calibration that runs from the opened epoch. -/
theorem witness_EpochBoundaryOpens :
    (State.reset.inReset = false ∧ State.reset.pace.opened = none) ∧ (tOpened.inReset = false ∧ tOpened.pace.opened = some tReport) ∧
      (withPending State.reset).policy.commitPending = true ∧
      (let s := tRunning 1;
        (s.pace.epoch + 1 - s.monitor.cal.firstEpoch).toNat < s.monitor.cal.requested) ∧
      (let m := { defaultMeterSettings with binding := some (127 : SlotId) };
        let s := withPace { defaultPaceSettings with meterA := m, meterB := m } State.reset;
        s.policy.commitPending = false ∧ s.policy.active.pace.meterA.binding = some 127 ∧
          s.policy.active.pace.meterB.binding = some 127) ∧
      (State.reset.policy.active.pace.meterA.binding = none ∧ State.reset.policy.active.pace.meterB.binding = none) := by
  decide +kernel

/-- Payout: the demands fit the pie, and do not; slots in and out of the payout set. -/
theorem witness_BoundaryPayout :
    (totalDemand State.reset = 0 ∧ totalDemand State.reset ≤ State.reset.sched.pie ∧ InPayout State.reset 0 ∧
        ¬ InContending State.reset 0 ∧ ¬ InPayout State.reset 127 ∧ ¬ InContending State.reset 127) ∧
      (totalWeight tHeldState = 1 ∧ totalDemand tHeldState ≤ tHeldState.sched.pie ∧ InPayout tHeldState 0 ∧
        InContending tHeldState 0) ∧
      (let s := State.reset.modSlot 0 fun x => { x with liftRemaining := 1, liftAmount := 100, idleFlag := false };
        let t := { s with sched := { s.sched with pie := 99 } };
        totalDemand t = 100 ∧ t.sched.pie < totalDemand t ∧ InPayout t 0) ∧
      (let s := tHeldState.modSlot 0 fun x => { x with idleFlag := true };
        let t := s.modSlot 3 fun x => { x with state := .bound, address := some 5#24, liftRemaining := 1, liftAmount := 16383 };
        ¬ InPayout s 0 ∧ InContending s 0 ∧ totalDemand s ≤ s.sched.pie ∧ ¬ InPayout t 0 ∧ InContending t 0 ∧
          totalDemand { t with sched := { t.sched with pie := 16382 } } = 16383) := by
  decide +kernel

theorem witness_CalExpiryCompletes :
    (tDue.inReset = false ∧ tDue.pace.cal.due = true ∧ tDue.monitor.cal.status ≠ .running) ∧
      (let s := { tRunning 1 with pace := tDue.pace };
        s.inReset = false ∧ s.pace.cal.due = true ∧ s.monitor.cal.status = .running) ∧
      (∀ m ∈ [State.reset.monitor, (tRunning 1).monitor],
        let s := { tLastTick .running 1 with monitor := m };
        s.inReset = false ∧ s.pace.cal.due = false ∧ s.pace.opened = none ∧ LastCountNext s.pace.cal) ∧
      (tOpened.inReset = false ∧ tOpened.pace.cal.due = false ∧ tOpened.pace.opened ≠ none) ∧
      (State.reset.pace.cal.due = false ∧ ¬ LastCountNext State.reset.pace.cal) := by decide +kernel

theorem witness_MeterExpiryLifts :
    tDue.inReset = false ∧ tDue.pace.meterA.due = { slot := 127, liftAmount := 16383, liftEpochs := 255 } :: [] ∧
      tDue.pace.meterB.due = { slot := 0, liftAmount := 0, liftEpochs := 1 } :: [] ∧ (tDue.slot 0).state = .bound ∧
      (tDue.slot 127).state = .vacant := by decide +kernel

/-- The scan channel in a run state with a count. -/
def tScan (x : RunState) (n : Nat) (s : State) : State :=
  { s with pace := { s.pace with scan := { s.pace.scan with run := x, count := n } } }

/-- Passes at the ages 4999, 5000 and 55000, of a RUNNING and of a STOPPING channel. -/
theorem witness_ScanPassVisits :
    (∀ e ∈ [4999, 5000, 55000],
      let s := tScan .stopping 1 { tOpenState with pace := { tOpenState.pace with epoch := BitVec.ofNat 32 e } }
      s.inReset = false ∧ s.pace.scan.run = .stopping ∧ s.pace.scan.count ≤ 1 ∧ KeysUnique s ∧
        (tOpen ∈ s.tracker.released ∧ (s.pace.epoch - tOpen.releaseEpoch).toNat = e)) ∧
      State.reset.pace.scan.run = .running ∧ (State.reset.slot 0).state = .bound ∧ (State.reset.slot 127).state ≠ .bound ∧
      (tOpenState.slot 0).outstanding ≠ 0 ∧ (tHeldState.slot 0).depth ≠ 0 ∧ (State.reset.slot 0).admissionMark = false := by
  decide +kernel

theorem witness_ScanChannelStops :
    let s := tScan .stopping 2 State.reset
    s.inReset = false ∧ s.pace.scan.run = .stopping ∧ 1 < s.pace.scan.count := by decide +kernel

/-- A state with a manager list and a number of buffered requests. -/
def tManaged (list : List FabAddr) (n : Nat) : State :=
  { State.reset with agent := { State.reset.agent with managers := list, buffer := List.replicate n tOther } }

theorem witness_MreqBuffered :
    Arrives (tManaged [8#24] 0) .f (tRequest 1 []) .request ∧ srcAddr (tRequest 1 []) = 9#24 ∧
      Arrives (tManaged [8#24, 9#24] 8) .f (tRequest 1 []) .request ∧ Arrives (tManaged [] 7) .f (tRequest 1 []) .request ∧
      (tManaged [] 8).agent.buffer.length = 8 ∧ (tManaged [] 7).agent.buffer.length = 7 := by decide +kernel

/-- A waiting response with a completion, and a number of frames in the origin queue. -/
def tWaiting (x : Completion) (n : Nat) : State :=
  { asked State.reset (tRequest 1 []) with
    originQueue := List.replicate n tOther
    agent := { State.reset.agent with buffer := [tRequest 1 []], waiting := some { frame := tOther, completion := x } } }

theorem witness_WaitingResponsePlaced :
    ∀ x ∈ [Completion.plain, .rename 3#24, .reset .full, .reset .traffic], ∀ n ∈ [63, 64],
      (tWaiting x n).inReset = false ∧ (tWaiting x n).agent.waiting = some { frame := tOther, completion := x } ∧
        (tWaiting x n).originQueue.length = n := by decide +kernel

theorem witness_UnknownKindAnswered :
    Oldest (tAsk 0x7E []) (tRequest 0x7E []) 0x7E ∧ 0x7E ∉ requestKindCodes ∧ requestCorrupt (tRequest 0x7E []) = false ∧
      Oldest (asked State.reset (tBadCrc 0x7E [])) (tBadCrc 0x7E []) 0x7E ∧ requestCorrupt (tBadCrc 0x7E []) = true := by
  decide +kernel

/-- For each kind: a request with a wrong CRC, and one with a field byte too many. -/
theorem witness_FrameChecksFirst :
    ∀ x ∈ sizedRequests.map fun x => (x.2.1, x.2.2),
      (Oldest (asked State.reset (tBadCrc x.1 [])) (tBadCrc x.1 []) x.1 ∧ requestCorrupt (tBadCrc x.1 []) = true) ∧
        (let f := tRequest x.1 (List.replicate (x.2 + 1) 0#8);
          Oldest (asked State.reset f) f x.1 ∧ requestCorrupt f = false ∧ bodyLength f = x.2 + 3) := by decide +kernel

theorem witness_SnapshotReads :
    Asks 0x01 [] State.reset ∧ Asks 0x41 [] State.reset ∧ Asks 0x42 [] State.reset ∧ Asks 0x22 [] State.reset ∧
      ∀ n ∈ [0, 127, 128, 255], Asks 0x40 [BitVec.ofNat 8 n] State.reset ∧ field (tRequest 0x40 [BitVec.ofNat 8 n]) 0 1 = n := by
  decide +kernel

/-- STAGE SLOT at slots 127 and 128, with a good policy and with class 4. -/
theorem witness_StageSlotWrites :
    (∀ s ∈ [State.reset, withPending State.reset], ∀ n ∈ [0, 127, 128],
      Asks 0x10 (BitVec.ofNat 8 n :: slotPolicyBytes defaultSlotPolicy) s ∧
        field (tRequest 0x10 (BitVec.ofNat 8 n :: slotPolicyBytes defaultSlotPolicy)) 0 1 = n) ∧
      firstOut (slotFields (body (tRequest 0x10 (0#8 :: slotPolicyBytes defaultSlotPolicy)))) = none ∧
      (let b := 0#8 :: 4#8 :: (slotPolicyBytes defaultSlotPolicy).tail;
        Asks 0x10 b State.reset ∧ firstOut (slotFields (body (tRequest 0x10 b))) = some 1) ∧
      ∀ x ∈ [((2 : Nat), 7), (1, 8)],
        let b := 0#8 :: slotPolicyBytes defaultSlotPolicy |>.set 7 (BitVec.ofNat 8 x.1);
        Asks 0x10 b State.reset ∧ firstOut (slotFields (body (tRequest 0x10 b))) = some x.2 := by decide +kernel

/-- Request fields of each STAGE request that names no slot: the default values. -/
def tGroupFields : List (List Byte) :=
  [partBytes defaultPartValues, costBytes defaultCostTable, classBytes defaultClassTable, 15#8 :: profileBytes defaultProfile,
    trackerBytes defaultTrackerParams, paceBytes defaultPaceSettings, spoolBytes defaultSpoolSettings, 1#8 :: routeBytes defaultRoute]

theorem witness_StageGroupsWrite :
    ∀ x ∈ stageGroups.zip tGroupFields,
      Asks x.1.2.1 x.2 State.reset ∧ Asks x.1.2.1 x.2 (withPending State.reset) ∧ x.2.length = x.1.2.2.1 ∧
        firstOut (x.1.2.2.2.1 (body (tRequest x.1.2.1 x.2))) = none ∧
        (x.1.2.1 = 0x13 ∨
          (Asks x.1.2.1 (List.replicate x.1.2.2.1 0xFF#8) State.reset ∧
            firstOut (x.1.2.2.2.1 (body (tRequest x.1.2.1 (List.replicate x.1.2.2.1 0xFF#8)))) ≠ none)) := by decide +kernel

theorem witness_CommitAccepts :
    Asks 0x20 [] State.reset ∧ Asks 0x20 [] (withPending State.reset) ∧ State.reset.monitor.state ≠ .forced ∧
      ∀ v ∈ [true, false],
        let s := withProfile5 true v tForced
        Asks 0x20 [] s ∧ s.policy.commitPending = false ∧ s.monitor.state = .forced ∧ s.monitor.forced = some 5 ∧
          s.policy.staged.profiles[(5 : ProfileId)].valid = v := by decide +kernel

theorem witness_DiscardCopiesActive :
    Asks 0x21 [] State.reset ∧ State.reset.policy.commitPending = false ∧ Asks 0x21 [] (withPending State.reset) ∧
      (withPending State.reset).policy.commitPending = true := by decide +kernel

theorem witness_BindBindsSlot :
    (∀ n ∈ [0, 1, 3, 127, 128], Asks 0x30 [BitVec.ofNat 8 n, 0#8, 0#8, 5#8] State.reset ∧
      field (tRequest 0x30 [BitVec.ofNat 8 n, 0#8, 0#8, 5#8]) 0 1 = n) ∧
      (State.reset.slot 127).state = .vacant ∧ mapLookup State.reset 5#24 = none ∧ mapLookup (tSlot3 .bound) 5#24 ≠ none ∧
      ((tSlot3 .bound).slot 127).state = .vacant ∧ ((tSlot3 .bound).slot 3).state ≠ .vacant := by decide +kernel

/-- UNBIND of slot 3 in each state, with and without an exchange outstanding. -/
theorem witness_UnbindDrainsSlot :
    (∀ n ∈ [0, 1, 127, 128], Asks 0x31 [BitVec.ofNat 8 n] State.reset ∧ field (tRequest 0x31 [BitVec.ofNat 8 n]) 0 1 = n) ∧
      (∀ x ∈ tStates, Asks 0x31 [3#8] (tSlot3 x) ∧ ((tSlot3 x).slot 3).state = x ∧ ((tSlot3 x).slot 3).outstanding = 0) ∧
      (((tSlot3 .bound).modSlot 3 fun x => { x with outstanding := 1 }).slot 3).outstanding ≠ 0 := by decide +kernel

theorem witness_SuspendAndResume :
    ∀ n ∈ [0, 3, 127, 128],
      Asks 0x32 [BitVec.ofNat 8 n] State.reset ∧ field (tRequest 0x32 [BitVec.ofNat 8 n]) 0 1 = n ∧
        Asks 0x33 [BitVec.ofNat 8 n] (tSlot3 .suspended) ∧ field (tRequest 0x33 [BitVec.ofNat 8 n]) 0 1 = n ∧
        (State.reset.slot 0).state = .bound ∧ (State.reset.slot 127).state ≠ .bound ∧
        ((tSlot3 .suspended).slot 3).state = .suspended ∧ ((tSlot3 .suspended).slot 127).state ≠ .suspended := by decide +kernel

theorem witness_ClearQuarantineBinds :
    ∀ n ∈ [0, 3, 127, 128],
      Asks 0x34 [BitVec.ofNat 8 n] (tSlot3 .quarantined) ∧ field (tRequest 0x34 [BitVec.ofNat 8 n]) 0 1 = n ∧
        ((tSlot3 .quarantined).slot 3).state = .quarantined ∧ ((tSlot3 .quarantined).slot 127).state ≠ .quarantined := by
  decide +kernel

theorem witness_ForceAndRelease :
    (∀ n ∈ [0, 5, 15, 16], Asks 0x50 [BitVec.ofNat 8 n] State.reset ∧ field (tRequest 0x50 [BitVec.ofNat 8 n]) 0 1 = n) ∧
      (let s := withProfile5 true false State.reset;
        Asks 0x50 [5#8] s ∧ s.policy.active.profiles[(5 : ProfileId)].valid = true ∧ s.policy.commitPending = false ∧
          s.policy.active.profiles[(0 : ProfileId)].valid = false ∧ (withPending s).policy.commitPending = true ∧
          (withPending s).policy.staged.profiles[(5 : ProfileId)].valid = false ∧ Asks 0x50 [5#8] (withPending s)) ∧
      Asks 0x51 [] tForced ∧ tForced.monitor.state = .forced ∧ Asks 0x51 [] State.reset ∧ State.reset.monitor.state ≠ .forced := by
  decide +kernel

/-- CALIBRATE with counts 0, 1 and 255, budgets 0 and 1, with a calibration RUNNING and without. -/
theorem witness_CalibrateAndCancel :
    (tRunning 1).monitor.cal.status = .running ∧ State.reset.monitor.cal.status ≠ .running ∧
      ∀ n ∈ [0, 1, 255], ∀ b ∈ [0, 1], ∀ s ∈ [State.reset, tRunning 1],
        Asks 0x52 [BitVec.ofNat 8 n, 0#8, BitVec.ofNat 8 b] s ∧
          field (tRequest 0x52 [BitVec.ofNat 8 n, 0#8, BitVec.ofNat 8 b]) 0 1 = n ∧
          field (tRequest 0x52 [BitVec.ofNat 8 n, 0#8, BitVec.ofNat 8 b]) 1 2 = b := by decide +kernel

theorem witness_SpoolReadRemoves :
    ∀ n ∈ [0, 1, 60, 61],
      Asks 0x60 [BitVec.ofNat 8 n] State.reset ∧ field (tRequest 0x60 [BitVec.ofNat 8 n]) 0 1 = n := by decide +kernel

theorem witness_SpoolTriggerTakes :
    Asks 0x61 [] tPre ∧ tPre.spool.state = .pre ∧ tPre.spoolSettings.mode = .ringThenStop ∧ Asks 0x61 [] State.reset ∧
      State.reset.spool.state ≠ .pre ∧
      (let s := withSpool { tFreeze with mode := .offThenStop } tPre;
        Asks 0x61 [] s ∧ s.spool.state = .pre ∧ s.spoolSettings.mode ≠ .ringThenStop) := by decide +kernel

theorem witness_SpoolClearEmpties : Asks 0x62 [] tPre ∧ tPre.spool.entries.length = 6 := by decide +kernel

theorem witness_ClearNoticesClears :
    Asks 0x70 [0x0F#8, 0xFF#8] State.reset ∧ field (tRequest 0x70 [0x0F#8, 0xFF#8]) 0 2 = 4095 ∧
      Asks 0x70 [0x10#8, 0#8] State.reset ∧ field (tRequest 0x70 [0x10#8, 0#8]) 0 2 = 4096 := by decide +kernel

/-- SET MANAGERS with counts 0, 4 and 5, without a count, with a length that does not fit, and with a wrong CRC. -/
theorem witness_SetManagersReplaces :
    (∀ n ∈ [0, 4, 5],
      let f := tRequest 0x71 (BitVec.ofNat 8 n :: List.replicate (3 * n) 1#8)
      Oldest (asked State.reset f) f 0x71 ∧ requestCorrupt f = false ∧ 3 ≤ bodyLength f ∧ field f 0 1 = n ∧
        bodyLength f = 1 + 3 * n + 2) ∧
      (let f := tRequest 0x71 [];
        Oldest (asked State.reset f) f 0x71 ∧ requestCorrupt f = false ∧ bodyLength f = 2) ∧
      (let f := tRequest 0x71 [4#8, 0#8];
        Oldest (asked State.reset f) f 0x71 ∧ requestCorrupt f = false ∧ field f 0 1 = 4 ∧ bodyLength f ≠ 15) ∧
      Oldest (asked State.reset (tBadCrc 0x71 [0#8])) (tBadCrc 0x71 [0#8]) 0x71 ∧ requestCorrupt (tBadCrc 0x71 [0#8]) = true := by
  decide +kernel

theorem witness_RenameAndResetPart :
    (Asks 0x72 [0#8, 0#8, 5#8] (tSlot3 .bound) ∧ mapLookup (tSlot3 .bound) 5#24 ≠ none) ∧
      ∀ k ∈ [63, 64],
        let s := { State.reset with originQueue := List.replicate k tOther }
        s.originQueue.length = k ∧ Asks 0x72 [0#8, 0#8, 5#8] s ∧ mapLookup s 5#24 = none ∧
          ∀ n ∈ [0, 1, 2, 3, 255], Asks 0x7F [BitVec.ofNat 8 n] s ∧ field (tRequest 0x7F [BitVec.ofNat 8 n]) 0 1 = n := by
  decide +kernel

/-- A soft reset due, slot 3 DRAINING. -/
def tResetDue (x : ResetScope) : State :=
  { tSlot3 .draining with agent := { State.reset.agent with resetDue := some x } }

theorem witness_FullResetState : (tResetDue .full).inReset = false ∧ (tResetDue .full).agent.resetDue = some .full := by
  decide +kernel

theorem witness_TrafficResetState :
    (tResetDue .traffic).inReset = false ∧ (tResetDue .traffic).agent.resetDue = some .traffic ∧
      ((tResetDue .traffic).slot 3).state = .draining ∧ ((tResetDue .traffic).slot 0).state ≠ .draining := by decide +kernel

theorem witness_NoticeRaise :
    noticeFlag (raiseNotice .batch State.reset).agent.flags .batch = true ∧ noticeFlag State.reset.agent.flags .watermark = false ∧
      (raiseNotice .batch State.reset).agent.flags.getLsbD NoticeKind.batch.code = true ∧
      State.reset.agent.flags.getLsbD NoticeKind.watermark.code = false := by decide +kernel

/-- The spool in a state and mode with watermark 6, at one below its capacity and at it. -/
theorem witness_SpoolTakesRecord :
    (State.reset.spool.state = .off) ∧
      ∀ n ∈ [2047, 2048],
        let s (m : SpoolMode) := (withSpool { tFreeze with mode := m, stopOnWatermark := false } State.reset).modSpool fun x =>
          { x with state := .collecting, entries := List.replicate n (tEntry 0) }
        (s .stop).spool.state = .collecting ∧ (s .stop).spoolSettings.mode = .stop ∧ (s .ring).spoolSettings.mode = .ring ∧
          (s .stop).spool.entries.length = n ∧ capacityOf (s .stop).spoolSettings = 2048 := by decide +kernel

/-- PRE and POST under the three THEN modes with watermark 6 as capacity, at two below it, one below it and at it, and FROZEN. -/
theorem witness_SpoolTakesRecord_then :
    ∀ m ∈ [SpoolMode.ringThenStop, .offThenRing, .offThenStop], ∀ x ∈ [SpoolState.pre, .post, .frozen], ∀ n ∈ [4, 5, 6],
      let s := (withSpool { tFreeze with mode := m } State.reset).modSpool fun y =>
        { y with state := x, entries := List.replicate n (tEntry 0) }
      s.spool.state = x ∧ s.spoolSettings.mode = m ∧ s.spool.entries.length = n ∧ entryLimit s.spoolSettings = 6 := by
  decide +kernel

/-- A step that leads on: from a state whose queue holds one command. -/
def tNext (c : Instr) (s : State) : State := { s with pending := [c] }

theorem witness_StepKeepsQueuesBounded : QueuesBounded (tNext .suspend (tWaiting .plain 64)) := by decide +kernel
theorem witness_StepKeepsPolicyInRange : PolicyInRange (tNext (.epochBoundary .afterPay) (withPending (tSlot3 .bound))) := by
  decide +kernel
theorem witness_StepKeepsRecordsSound : RecordsSound (tNext (.done (tDone 0#8 64)) tOpenState) := by decide +kernel
theorem witness_StepKeepsPoolBounded : PoolBounded (tNext (.command (tArrival (tCommand 5 7 2 64))) (tPool 1024)) := by decide +kernel
theorem witness_StepKeepsAdmissionsAccounted :
    AdmissionsAccounted (tNext (.abort tAbort) (tHeldState.countSlot 0 fun c => { c with admitted := 1 })) := by decide +kernel
theorem witness_StepKeepsBalancesBounded :
    BalancesBounded (tNext .resume (tHeldState.modSlot 0 fun x => { x with balance := -32768 })) := by decide +kernel
theorem witness_StepKeepsDirectorySound : DirectorySound (tNext .bind (tSlot3 .bound)) := by decide +kernel
theorem witness_StepKeepsNamedProfileValid :
    NamedProfileValid (tNext (.epochBoundary .afterPay) (withPending (withProfile5 true true tForced))) := by decide +kernel
theorem witness_StepKeepsSpoolBounded : SpoolBounded (tNext .spoolTrigger tPre) := by decide +kernel

/-- From any state a step leads on. -/
theorem witness_StepKeeps_next (c : Instr) (s : State) : ∃ t, step (tNext c s) = .next t := by cases c <;> exact ⟨_, rfl⟩

end Sys2Proof.Machine
end

/-! SUPPORT. What the Usage Spool's requests do: the taking of a request that passes the frame checks, and SPOOL CLEAR
(R145). -/

namespace Sys2Proof.Machine

/-! ### The taking of a sound request -/

/-- The answer whose placement completes nothing but the request is the response of the statements (R162). -/
theorem answer_plain (req : Frame) (x : Status) (detail : Nat) (fields : List Byte) (u : State) :
    answer req (u, { status := x, detail := detail, fields := fields, completion := .plain }) =
      respond req x detail fields u := by
  unfold answer placeResponse respond originHasSpace originCapacity
  by_cases hq : u.originQueue.length < 64
  · simp only [hq, decide_true, if_true]
    rfl
  · simp only [hq, decide_false, if_false, Bool.false_eq_true]
    rfl

/-- A request that passes the frame checks goes to its kind's handler, and the handler's reply is answered (R162, R163). -/
theorem takeKind_sound {code size : Nat} {s : State} {req : Frame} (handle : List Byte → State → State × Reply)
    (h : Sound s req code size) : takeKind code size handle s = answer req (handle (body req) s) := by
  obtain ⟨⟨hreset, hwaiting, hdue, hhead, hkind⟩, hcrc, hlength⟩ := h
  have haccepts : kindIs code req = true := decide_eq_true hkind
  rw [takeKind, takeRequest_taken _ _ s req hreset hwaiting hdue hhead haccepts,
    serveSized_handled size handle req s hcrc hlength]

/-! ### SPOOL CLEAR -/

/-- SPOOL CLEAR has no state in which it is refused. -/
theorem exec_spoolClear_sound {s : State} {req : Frame} (h : Sound s req 0x62 0) :
    exec .spoolClear s = .next (respond req .ok 0 [] (clearSpool s)) :=
  congrArg Host.Outcome.next ((takeKind_sound spoolClear h).trans (answer_plain req .ok 0 [] (clearSpool s)))

theorem clearSpool_spool (s : State) :
    (clearSpool s).spool =
      { s.spool with entries := [], batchCount := 0, state := firstState s.policy.active.spool.mode } := rfl

theorem clearSpool_slot (s : State) (i : SlotId) :
    (clearSpool s).slot i = { s.slot i with spool := { (s.slot i).spool with fullNext := true } } := by
  simp [clearSpool, setFullNext]

theorem clearSpool_touches (s : State) :
    clearSpool s = { s with spool := (clearSpool s).spool, slots := (clearSpool s).slots } := rfl

/-- Settles O43: the state answered is `clearSpool s`, and each clause is one of its laws. -/
theorem spoolClearEmpties : Obligations.SpoolClearEmpties := by
  intro s req h
  refine ⟨clearSpool s, exec_spoolClear_sound h, ?_, clearSpool_slot s, clearSpool_touches s⟩
  rw [clearSpool_spool]
  cases s.policy.active.spool.mode <;> rfl

end Sys2Proof.Machine

/-! SUPPORT. What DISCARD does to the Policy Stage (R154). -/

namespace Sys2Proof.Machine

/-- While a commit is pending DISCARD changes nothing (R153). -/
theorem discard_of_pending (b : List Byte) {s : State} (h : s.policy.commitPending = true) :
    discard b s = (s, { status := .busy, detail := 0, fields := [], completion := .plain }) :=
  if_pos h

/-- With no commit pending the active image, whole, becomes the staged one, and nothing else changes. -/
theorem discard_of_not_pending (b : List Byte) {s : State} (h : s.policy.commitPending = false) :
    discard b s =
      ({ s with policy := { s.policy with staged := s.policy.active } },
        { status := .ok, detail := 0, fields := [], completion := .plain }) :=
  if_neg (by simp [h])

/-- DISCARD has no fields, so past the frame checks the answer is its handler's. -/
theorem exec_discard_sound {s : State} {req : Frame} (h : Sound s req 0x21 0) :
    exec .discard s = .next (answer req (discard (body req) s)) :=
  congrArg Host.Outcome.next (takeKind_sound discard h)

/-- Settles O34: the handler's reply in each state of the pending-commit flag, placed as a plain response. -/
theorem discardCopiesActive : Obligations.DiscardCopiesActive := by
  intro s req h
  rw [exec_discard_sound h]
  constructor
  · intro hpending
    rw [discard_of_pending _ hpending, answer_plain]
  · intro hclear
    rw [discard_of_not_pending _ hclear, answer_plain]

end Sys2Proof.Machine

/-! SUPPORT. What CLEAR NOTICES does to the latched notice flags (R167). -/

namespace Sys2Proof.Machine

/-- The latched flags with those named by a CLEAR NOTICES body cleared. -/
def flagsCleared (b : List Byte) (flags : BitVec 12) : BitVec 12 :=
  flags &&& ~~~((BitVec.ofNat 16 (beNat b 0 2)).setWidth 12)

/-- A flag stays set exactly where it was set and the body does not name it. -/
theorem getLsbD_flagsCleared (b : List Byte) (flags : BitVec 12) {k : Nat} (hk : k < 12) :
    (flagsCleared b flags).getLsbD k = (flags.getLsbD k && !(beNat b 0 2).testBit k) := by
  have hk16 : k < 16 := by omega
  simp only [flagsCleared, BitVec.getLsbD_and, BitVec.getLsbD_not, BitVec.getLsbD_setWidth, BitVec.getLsbD_ofNat, hk, hk16,
    decide_true, Bool.true_and]

/-- A set with a bit above 11 clears nothing. -/
theorem clearNotices_of_high_bit (b : List Byte) (s : State) (h : 4096 ≤ beNat b 0 2) :
    clearNotices b s = (s, { status := .badField, detail := 0, fields := [], completion := .plain }) := by
  have hmask : ¬ noticeMaskOk (BitVec.ofNat 16 (beNat b 0 2)) = true := by
    rw [noticeMaskOk_iff _ (beNat_two_lt b 0)]
    omega
  exact if_neg hmask

/-- A set within the twelve flags changes the latched flags and nothing else. -/
theorem clearNotices_of_lt (b : List Byte) (s : State) (h : beNat b 0 2 < 4096) :
    clearNotices b s =
      ({ s with agent := { s.agent with flags := flagsCleared b s.agent.flags } },
        { status := .ok, detail := 0, fields := [], completion := .plain }) :=
  if_pos ((noticeMaskOk_iff _ (beNat_two_lt b 0)).mpr h)

/-- Past the frame checks a CLEAR NOTICES is answered as its handler says. -/
theorem exec_clearNotices_sound {s : State} {req : Frame} (h : Sound s req 0x70 2) :
    exec .clearNotices s = .next (answer req (clearNotices (body req) s)) :=
  congrArg Host.Outcome.next (takeKind_sound clearNotices h)

/-- Settles O44: the handler's reply on either side of bit 12, placed as a plain response, which is the one frame sent. -/
theorem clearNoticesClears : Obligations.ClearNoticesClears := by
  intro s req h
  rw [exec_clearNotices_sound h]
  constructor
  · intro hhigh
    rw [clearNotices_of_high_bit _ s hhigh, answer_plain]
  · intro hlow
    refine ⟨flagsCleared (body req) s.agent.flags, fun k hk => getLsbD_flagsCleared _ _ hk, ?_⟩
    rw [clearNotices_of_lt _ s hlow, answer_plain]

end Sys2Proof.Machine

/-! SUPPORT. What a step can do, said once: every command's effect is a sequence of moves, and each move changes one block of
the state under the guard that the block's own rules set. The invariants are then proved move by move. -/

namespace Sys2Proof.Machine

/-! ### Slots that an invariant cannot tell apart -/

/-- A slot state in which the slot takes commands or answers for them: neither VACANT nor DRAINING. -/
def SlotState.Open (x : SlotState) : Prop := x ≠ .vacant ∧ x ≠ .draining

/-- Two contents of a slot that differ in nothing the record, admission and address invariants read: an open state may become
another open state. -/
structure Alike (x y : Slot) : Prop where
  state : y.state = x.state ∨ (x.state.Open ∧ y.state.Open)
  address : y.address = x.address
  gen : y.gen = x.gen
  outstanding : y.outstanding = x.outstanding
  exchanges : y.queue.map (·.ex) = x.queue.map (·.ex)
  admitted : y.counters.admitted = x.counters.admitted
  released : y.counters.released = x.counters.released
  withdrawn : y.counters.withdrawn = x.counters.withdrawn
  abortedHeld : y.counters.abortedHeld = x.counters.abortedHeld

theorem Alike.refl (x : Slot) : Alike x x := ⟨.inl rfl, rfl, rfl, rfl, rfl, rfl, rfl, rfl, rfl⟩

theorem Alike.depth {x y : Slot} (h : Alike x y) : y.depth = x.depth := by
  simpa [Slot.depth] using congrArg List.length h.exchanges

theorem Alike.vacant_iff {x y : Slot} (h : Alike x y) : y.state = .vacant ↔ x.state = .vacant := by
  obtain e | ⟨hx, hy⟩ := h.state
  · rw [e]
  · exact iff_of_false hy.1 hx.1

theorem Alike.draining_iff {x y : Slot} (h : Alike x y) : y.state = .draining ↔ x.state = .draining := by
  obtain e | ⟨hx, hy⟩ := h.state
  · rw [e]
  · exact iff_of_false hy.2 hx.2

/-- A released record changed in what no invariant reads: its exchange's key, slot and generation stay, and so does its being
STALE or not. -/
structure OpenAlike (r r' : OpenRecord) : Prop where
  key : r'.ex.key = r.ex.key
  slot : r'.ex.slot = r.ex.slot
  gen : r'.ex.gen = r.ex.gen
  stale : r'.state = .stale ↔ r.state = .stale

/-! ### Moves -/

/-- A slot whose held commands are withdrawn. -/
def withdrawnSlot (x : Slot) : Slot :=
  { x with
    queue := []
    counters := { x.counters with withdrawn := x.counters.withdrawn + BitVec.ofNat 32 x.queue.length } }

/-- One move from `s`. `sound` stands for what is known of the records at the start of the step: the walk's moves name records
that are in the released list where it holds. -/
inductive Move (sound : Prop) (s : State) : State → Prop
  /-- What no invariant reads. -/
  | aside (inReset : Bool) (originDiscards holdConsumed : Counter) (releaseSlot : Option Frame) (sorter : Sorter)
      (lostDone : LostDone) (sched : Scheduler) (doneAnomalies orphaned : Counter) (pace : PaceBank) :
      Move sound s
        { s with
          inReset := inReset, originDiscards := originDiscards, holdConsumed := holdConsumed, releaseSlot := releaseSlot
          sorter := sorter, lostDone := lostDone, sched := sched, pace := pace
          tracker := { s.tracker with doneAnomalies := doneAnomalies, orphaned := orphaned } }
  | origin (q : List Frame) (hq : s.originQueue.length ≤ 64 → q.length ≤ 64) : Move sound s { s with originQueue := q }
  | ports (f t : PortSide) (hf : s.portF.forwarded.length ≤ 128 → f.forwarded.length ≤ 128)
      (ht : s.portT.forwarded.length ≤ 128 → t.forwarded.length ≤ 128) : Move sound s { s with portF := f, portT := t }
  | agent (a : Agent) (hb : s.agent.buffer.length ≤ 8 → a.buffer.length ≤ 8)
      (hm : s.agent.managers.length ≤ 4 → a.managers.length ≤ 4) : Move sound s { s with agent := a }
  | spool (x : Spool) (hx : SpoolBounded s → x.entries.length ≤ capacityOf s.spoolSettings) :
      Move sound s { s with spool := x }
  | monitor (m : Monitor) (hm : NamedProfileValid s → NamedProfileValid { s with monitor := m }) :
      Move sound s { s with monitor := m }
  | staged (im : Image) (hidle : s.policy.commitPending = false) (hrange : PolicyInRange s → imageInRange im)
      (hlock : 1 ≤ s.policy.staged.tracker.lockCount → 1 ≤ s.policy.active.tracker.lockCount → 1 ≤ im.tracker.lockCount)
      (hmark : SpoolBounded s → within 1 2048 im.spool.watermark = true) :
      Move sound s { s with policy := { s.policy with staged := im } }
  | committed (d : BitVec 16) (hforced : forcedInvalid s = none) :
      Move sound s { s with policy := { s.policy with commitPending := true, pendingDigest := d } }
  | applied (v : Vector Slot 128) (m : Monitor) (x : Spool) (hpending : s.policy.commitPending = true)
      (halike : ∀ i : SlotId, Alike (s.slot i) v[i])
      (hbalance : BalancesBounded s →
        ∀ i : SlotId, -32768 ≤ v[i].balance ∧ v[i].balance ≤ (s.policy.staged.slots[i].cap : Int))
      (hm : NamedProfileValid s → NamedProfileValid { activateStaged s with monitor := m })
      (hx : SpoolBounded s → x.entries.length ≤ capacityOf s.policy.staged.spool) :
      Move sound s { activateStaged s with slots := v, monitor := m, spool := x }
  | slots (v : Vector Slot 128) (halike : ∀ i : SlotId, Alike (s.slot i) v[i])
      (hbalance : BalancesBounded s → ∀ i : SlotId, -32768 ≤ v[i].balance ∧ v[i].balance ≤ ((s.slotPolicy i).cap : Int)) :
      Move sound s { s with slots := v }
  | drained (i : SlotId) (hstate : (s.slot i).state = .draining) (hzero : (s.slot i).outstanding = 0) :
      Move sound s (s.modSlot i drainedSlot)
  | bound (i : SlotId) (a : FabAddr) (hi : i ≠ 0) (hvacant : (s.slot i).state = .vacant) (hmap : mapLookup s a = none) :
      Move sound s (bindSlot i a s)
  | unbound (i : SlotId) (hi : i ≠ 0) (hopen : (s.slot i).state.Open) :
      Move sound s (s.modSlot i fun x => drainingSlot (withdrawnSlot x))
  | admitted (i : SlotId) (f : Frame) (hslot : (s.slot i).state ≠ .vacant ∨ i = 0) (hdraining : (s.slot i).state ≠ .draining)
      (hkey : keyLive s (keyOf .f f) = false) (hroom : liveCount s < 1024) :
      Move sound s (s.modSlot i (admitToSlot (heldRecord s i f)))
  | aborted (i : SlotId) (k : ExchangeKey) (hheld : ∃ h ∈ (s.slot i).queue, h.ex.key = k) :
      Move sound s (s.modSlot i (abortFromSlot k))
  | released (i : SlotId) (h : HeldRecord) (hhead : headOf s i = some h) (hbound : (s.slot i).state = .bound) :
      Move sound s (releaseHead i h s)
  | noted (k : ExchangeKey) (g : OpenRecord → OpenRecord) (hg : ∀ r, OpenAlike r (g r)) : Move sound s (modOpen k g s)
  | closed (r : OpenRecord) (code n : Nat) (hr : r ∈ s.tracker.released) :
      Move sound s (freeOpen r.ex.key (if generationTest s r.ex then settleSlot r code n s else s))
  | wentStale (r : OpenRecord) (hr : sound → r ∈ s.tracker.released) (hfresh : r.state ≠ .stale) :
      Move sound s
        (if generationTest s r.ex then decrementOutstanding r.ex.slot (modOpen r.ex.key markStale s)
        else modOpen r.ex.key markStale s)
  | orphaned (r : OpenRecord) (hr : sound → ∃ r' ∈ s.tracker.released, r'.ex.key = r.ex.key ∧ r'.state = .stale) :
      Move sound s (freeOpen r.ex.key s)
  | cleared : Move sound s
      { s.mapSlots (fun _ x => trafficSlot (withdrawnSlot x)) with tracker := { s.tracker with released := [] } }
  | held : Move sound s (State.held s.freeChoices s.pending)
  | fullReset : Move sound s (afterFullReset s)

/-- A sequence of moves. -/
inductive Moves (sound : Prop) (s : State) : State → Prop where
  | refl : Moves sound s s
  | tail {t v : State} (h : Moves sound s t) (hm : Move sound t v) : Moves sound s v

variable {u : Prop}

theorem Move.moves {s t : State} (h : Move u s t) : Moves u s t := .tail .refl h

/-- What every move keeps, every sequence of moves keeps. -/
theorem Moves.keep {P : State → Prop} (hP : ∀ s t, Move u s t → P s → P t) {s t : State} (h : Moves u s t) (hs : P s) :
    P t := by
  induction h with
  | refl => exact hs
  | tail _ hm ih => exact hP _ _ hm ih

/-- No move changes the command queue or the counter of free values. -/
theorem Move.queue {s t : State} (h : Move u s t) : t.pending = s.pending ∧ t.freeChoices = s.freeChoices := by
  cases h with
  | closed r code n hr =>
    split
    · rw [settleSlot_touches]; exact ⟨rfl, rfl⟩
    · exact ⟨rfl, rfl⟩
  | wentStale r hr hf =>
    split
    · rw [decrementOutstanding_touches]; exact ⟨rfl, rfl⟩
    · exact ⟨rfl, rfl⟩
  | _ => exact ⟨rfl, rfl⟩

end Sys2Proof.Machine

/-! SUPPORT. Queues, policy, the named profile and the spool, move by move. -/

namespace Sys2Proof.Machine

variable {u : Prop} {s t : State}

/-! ### Queues, policy, named profile, spool: one block each -/

theorem Move.queuesBounded (h : Move u s t) (hs : QueuesBounded s) : QueuesBounded t := by
  obtain ⟨horigin, hf, ht, hbuffer, hmanagers⟩ := id hs
  cases h with
  | origin q hq => exact ⟨hq horigin, hf, ht, hbuffer, hmanagers⟩
  | ports f t hfq htq => exact ⟨horigin, hfq hf, htq ht, hbuffer, hmanagers⟩
  | agent a hb hm => exact ⟨horigin, hf, ht, hb hbuffer, hm hmanagers⟩
  | closed r code n hr =>
    split
    · rw [settleSlot_touches]; exact hs
    · exact hs
  | wentStale r hr hfresh =>
    split
    · rw [decrementOutstanding_touches]; exact hs
    · exact hs
  | held => exact ⟨Nat.zero_le _, Nat.zero_le _, Nat.zero_le _, Nat.zero_le _, Nat.zero_le _⟩
  | fullReset => exact ⟨horigin, hf, ht, Nat.zero_le _, hmanagers⟩
  | _ => exact hs

theorem imageInRange_default : imageInRange defaultImage := by
  refine ⟨fun i => ?_, by decide, by decide, by decide, fun p => ?_, by decide, by decide, by decide, by decide, by decide⟩
  · have e : defaultImage.slots[i] = defaultSlotPolicy := Vector.getElem_replicate _
    rw [e]
    decide
  · have e : defaultImage.profiles[p] = defaultProfile := Vector.getElem_replicate _
    rw [e]
    decide

/-- A slot's staged policy made active leaves the active image in range. -/
theorem imageInRange_setSlot {m : Image} {p : SlotPolicy} (i : SlotId) (hm : imageInRange m) (hp : slotPolicyInRange p = true) :
    imageInRange { m with slots := m.slots.set i.val p } := by
  obtain ⟨hslots, hrest⟩ := hm
  refine ⟨fun j => ?_, hrest⟩
  show slotPolicyInRange (m.slots.set i.val p)[j.val] = true
  rw [Vector.getElem_set]
  split
  · exact hp
  · exact hslots j

theorem Move.policyInRange (h : Move u s t) (hs : PolicyInRange s) : PolicyInRange t := by
  cases h with
  | staged im hidle hrange hlock hmark => exact ⟨hrange hs, hs.2⟩
  | applied v m x hpending halike hbalance hm hx => exact ⟨hs.1, hs.1⟩
  | bound i a hi hvacant hmap => exact ⟨hs.1, imageInRange_setSlot i hs.2 (hs.1.1 i)⟩
  | closed r code n hr =>
    split
    · rw [settleSlot_touches]; exact hs
    · exact hs
  | wentStale r hr hfresh =>
    split
    · rw [decrementOutstanding_touches]; exact hs
    · exact hs
  | held => exact ⟨imageInRange_default, imageInRange_default⟩
  | fullReset => exact ⟨imageInRange_default, imageInRange_default⟩
  | _ => exact hs

theorem namedProfileValid_reset {s : State} (hpolicy : s.policy = resetPolicy) (hmonitor : s.monitor = resetMonitor) :
    NamedProfileValid s := by
  unfold NamedProfileValid
  rw [hpolicy, hmonitor]
  exact ⟨nofun, nofun, by decide, by decide⟩

theorem Move.namedProfileValid (h : Move u s t) (hs : NamedProfileValid s) : NamedProfileValid t := by
  obtain ⟨hlocked, hforced, hactive, hstaged⟩ := id hs
  cases h with
  | monitor m hm => exact hm hs
  | staged im hidle hrange hlock hmark =>
    refine ⟨hlocked, fun hf => ?_, hactive, hlock hstaged hactive⟩
    obtain ⟨p, hp, hvalid, -⟩ := hforced hf
    exact ⟨p, hp, hvalid, fun hpending => absurd hpending (by simp [hidle])⟩
  | committed d hok =>
    refine ⟨hlocked, fun hf => ?_, hactive, hstaged⟩
    obtain ⟨p, hp, hvalid, -⟩ := hforced hf
    refine ⟨p, hp, hvalid, fun _ => ?_⟩
    refine Classical.byContradiction fun hinvalid => ?_
    have hf' : s.monitor.state = .forced := hf
    have hp' : s.monitor.forced = some p := hp
    have hinvalid' : ¬ (stagedProfile s p).valid = true := hinvalid
    simp [forcedInvalid, hf', hp', hinvalid'] at hok
  | applied v m x hpending halike hbalance hm hx => exact hm hs
  | closed r code n hr =>
    split
    · rw [settleSlot_touches]; exact hs
    · exact hs
  | wentStale r hr hfresh =>
    split
    · rw [decrementOutstanding_touches]; exact hs
    · exact hs
  | held => exact namedProfileValid_reset rfl rfl
  | fullReset => exact namedProfileValid_reset rfl rfl
  | _ => exact hs

theorem spoolBounded_reset {s : State} (hpolicy : s.policy = resetPolicy) (hspool : s.spool = resetSpool) :
    SpoolBounded s := by
  unfold SpoolBounded State.spoolSettings
  rw [hpolicy, hspool]
  exact ⟨by decide, by decide, by decide⟩

theorem Move.spoolBounded (h : Move u s t) (hs : SpoolBounded s) : SpoolBounded t := by
  obtain ⟨hentries, hactive, hstaged⟩ := id hs
  cases h with
  | spool x hx => exact ⟨hx hs, hactive, hstaged⟩
  | staged im hidle hrange hlock hmark => exact ⟨hentries, hactive, hmark hs⟩
  | applied v m x hpending halike hbalance hm hx => exact ⟨hx hs, hstaged, hstaged⟩
  | closed r code n hr =>
    split
    · rw [settleSlot_touches]; exact hs
    · exact hs
  | wentStale r hr hfresh =>
    split
    · rw [decrementOutstanding_touches]; exact hs
    · exact hs
  | held => exact spoolBounded_reset rfl rfl
  | fullReset => exact spoolBounded_reset rfl rfl
  | _ => exact hs

end Sys2Proof.Machine

/-! SUPPORT. Balances, move by move (R72). -/

namespace Sys2Proof.Machine

variable {u : Prop} {s t : State}

/-! ### What a move does to the slots -/

/-- What holds of every slot holds after a change of one slot that keeps it. -/
theorem forall_slot_modSlot {Q : SlotId → Slot → Prop} (i : SlotId) (g : Slot → Slot) (hs : ∀ j, Q j (s.slot j))
    (hg : Q i (g (s.slot i))) (j : SlotId) : Q j ((s.modSlot i g).slot j) := by
  rw [slot_modSlot]
  split
  · next h => exact h ▸ hg
  · exact hs j

theorem decrementOutstanding_eq (i : SlotId) (s : State) : decrementOutstanding i s = s.modSlot i outstandingLowered :=
  (outstandingLowered_eq i s).symm

/-- A slot whose outstanding count falls by one: the count, and the drain's end where it reaches 0. -/
theorem outstandingLowered_cases (x : Slot) :
    (x.state = .draining ∧ x.outstanding - 1 = 0 ∧
        outstandingLowered x =
          { x with outstanding := x.outstanding - 1, state := .vacant, address := none, balance := 0 }) ∨
      (¬ (x.state = .draining ∧ x.outstanding - 1 = 0) ∧
        outstandingLowered x = { x with outstanding := x.outstanding - 1 }) := by
  unfold outstandingLowered
  by_cases h : x.state = .draining ∧ x.outstanding - 1 = 0
  · exact .inl ⟨h.1, h.2, if_pos h⟩
  · exact .inr ⟨h, if_neg h⟩

/-- A slot settled by a close: the refund up to the cap, the counters and the period, the decrement where the record was not
STALE (R75, R76, R88, R89). -/
def settledSlot (cap refund sectorsDone : Nat) (stale : Bool) (x : Slot) : Slot :=
  let y := countClose stale sectorsDone { x with balance := raiseBalance cap x.balance refund }
  if stale then y else outstandingLowered y

theorem settleSlot_eq (r : OpenRecord) (code n : Nat) (s : State) :
    settleSlot r code n s =
      s.modSlot r.ex.slot
        (settledSlot (s.slotPolicy r.ex.slot).cap (refundOf s.policy.active.cost r code n) n (decide (r.state = .stale))) := by
  unfold settleSlot applyRefund settledSlot
  simp only [modSlot_modSlot_same]
  by_cases h : r.state = .stale
  · simp [h]
  · simp only [h, decide_false, if_false, Bool.false_eq_true, decrementOutstanding_eq, modSlot_modSlot_same]

/-! ### Balances -/

theorem zero_balance_bounds (cap : Nat) : (-32768 : Int) ≤ 0 ∧ (0 : Int) ≤ cap := by omega

theorem balancesBounded_modSlot (i : SlotId) (g : Slot → Slot) (hs : BalancesBounded s)
    (hg : -32768 ≤ (g (s.slot i)).balance ∧ (g (s.slot i)).balance ≤ ((s.slotPolicy i).cap : Int)) :
    BalancesBounded (s.modSlot i g) :=
  forall_slot_modSlot (Q := fun j x => -32768 ≤ x.balance ∧ x.balance ≤ ((s.slotPolicy j).cap : Int)) i g hs hg

theorem raiseBalance_bounds {cap : Nat} {b : Int} (n : Nat) (hb : -32768 ≤ b) :
    -32768 ≤ raiseBalance cap b n ∧ raiseBalance cap b n ≤ cap := by
  unfold raiseBalance
  omega

theorem chargeBalance_bounds {cap : Nat} {b : Int} (n : Nat) (hb : b ≤ cap) :
    -32768 ≤ chargeBalance b n ∧ chargeBalance b n ≤ cap := by
  unfold chargeBalance
  omega

theorem outstandingLowered_balance_bounds {cap : Nat} {x : Slot} (hx : -32768 ≤ x.balance ∧ x.balance ≤ (cap : Int)) :
    -32768 ≤ (outstandingLowered x).balance ∧ (outstandingLowered x).balance ≤ (cap : Int) := by
  obtain ⟨-, -, e⟩ | ⟨-, e⟩ := outstandingLowered_cases x <;> rw [e]
  · exact zero_balance_bounds cap
  · exact hx

theorem settledSlot_balance_bounds {cap : Nat} {x : Slot} (refund n : Nat) (stale : Bool) (hx : -32768 ≤ x.balance) :
    -32768 ≤ (settledSlot cap refund n stale x).balance ∧ (settledSlot cap refund n stale x).balance ≤ (cap : Int) := by
  have hraised := raiseBalance_bounds (cap := cap) refund hx
  cases stale
  · exact outstandingLowered_balance_bounds hraised
  · exact hraised

theorem balancesBounded_of_zero (h : ∀ i, (s.slot i).balance = 0) : BalancesBounded s := fun i => by
  rw [h i]
  exact zero_balance_bounds _

/-- The slots at power-on, one by one. -/
theorem resetSlots_getElem (i : SlotId) :
    resetSlots[i] = { resetSlot with state := if i = 0 then .bound else .vacant } := by
  have e : resetSlots[i] = ((Vector.replicate 128 resetSlot).set 0 { resetSlot with state := .bound })[i.val] := rfl
  rw [e, Vector.getElem_set]
  by_cases h : i = 0
  · subst h; rfl
  · have h0 : ¬ 0 = i.val := fun h0 => h (Fin.ext h0.symm)
    simp [h, h0]
    rfl

theorem Move.balancesBounded (h : Move u s t) (hs : BalancesBounded s) : BalancesBounded t := by
  cases h with
  | applied v m x hpending halike hbalance hm hx => exact hbalance hs
  | slots v halike hbalance => exact hbalance hs
  | drained i hstate hzero =>
    exact balancesBounded_modSlot i _ hs (zero_balance_bounds _)
  | bound i a hi hvacant hmap =>
    intro j
    have hslot : (bindSlot i a s).slot j = (s.modSlot i (boundSlot a)).slot j := rfl
    have hpolicy : j ≠ i → (bindSlot i a s).slotPolicy j = s.slotPolicy j := fun hj => by
      have hv : i.val ≠ j.val := fun e => hj (Fin.ext e.symm)
      simp [bindSlot, copyStagedPolicy, State.slotPolicy, Vector.getElem_set_ne, hv]
    by_cases hj : j = i
    · subst hj
      rw [hslot, slot_modSlot_self]
      exact zero_balance_bounds _
    · rw [hslot, slot_modSlot_other _ _ _ _ hj, hpolicy hj]
      exact hs j
  | unbound i hi hopen =>
    exact balancesBounded_modSlot i _ hs (zero_balance_bounds _)
  | admitted i f hslot hdraining hkey hroom =>
    exact balancesBounded_modSlot i _ hs (hs i)
  | aborted i k hheld =>
    exact balancesBounded_modSlot i _ hs (hs i)
  | released i h hhead hbound =>
    exact balancesBounded_modSlot i _ hs (chargeBalance_bounds _ (hs i).2)
  | closed r code n hr =>
    split
    · rw [settleSlot_eq]
      exact balancesBounded_modSlot _ _ hs (settledSlot_balance_bounds _ _ _ (hs _).1)
    · exact hs
  | wentStale r hr hfresh =>
    split
    · rw [decrementOutstanding_eq]
      exact balancesBounded_modSlot (s := modOpen r.ex.key markStale s) _ _ hs (outstandingLowered_balance_bounds (hs _))
    · exact hs
  | cleared =>
    refine balancesBounded_of_zero fun i => ?_
    show ((s.mapSlots fun _ x => trafficSlot (withdrawnSlot x)).slot i).balance = 0
    rw [slot_mapSlots]
    unfold trafficSlot
    dsimp only
    split <;> rfl
  | held => exact balancesBounded_of_zero fun i => congrArg Slot.balance (resetSlots_getElem i)
  | fullReset => exact balancesBounded_of_zero fun i => congrArg Slot.balance (resetSlots_getElem i)
  | _ => exact hs

end Sys2Proof.Machine

/-! SUPPORT. The admission account and the address map, move by move (R19, R20, R32). -/

namespace Sys2Proof.Machine

variable {u : Prop} {s t : State}

/-! ### Admissions -/

/-- A slot's admission account (R32). -/
def Accounted (x : Slot) : Prop :=
  x.counters.admitted =
    x.counters.released + x.counters.withdrawn + x.counters.abortedHeld + BitVec.ofNat 32 x.queue.length

theorem ofNat_succ (n : Nat) : BitVec.ofNat 32 (n + 1) = BitVec.ofNat 32 n + 1 := BitVec.ofNat_add n 1

theorem Alike.accounted {x y : Slot} (h : Alike x y) (hx : Accounted x) : Accounted y := by
  have hdepth : y.queue.length = x.queue.length := h.depth
  unfold Accounted
  rw [h.admitted, h.released, h.withdrawn, h.abortedHeld, hdepth]
  exact hx

theorem accounted_withdrawnSlot {x : Slot} (hx : Accounted x) : Accounted (withdrawnSlot x) := by
  unfold Accounted at hx ⊢
  simp only [withdrawnSlot, hx, List.length_nil, BitVec.add_zero]
  ac_rfl

theorem accounted_admitToSlot {x : Slot} (h : HeldRecord) (hx : Accounted x) : Accounted (admitToSlot h x) := by
  unfold Accounted at hx ⊢
  simp only [admitToSlot, markAdmission, hx, List.length_append, List.length_singleton, ofNat_succ]
  ac_rfl

theorem length_eraseP_succ {α : Type} {p : α → Bool} {l : List α} {a : α} (ha : a ∈ l) (hp : p a = true) :
    l.length = (l.eraseP p).length + 1 := by
  have hlen := List.length_eraseP_of_mem ha hp
  have hpos := List.length_pos_of_mem ha
  omega

theorem accounted_abortFromSlot {x : Slot} {k : ExchangeKey} (hk : ∃ h ∈ x.queue, h.ex.key = k) (hx : Accounted x) :
    Accounted (abortFromSlot k x) := by
  obtain ⟨h, hmem, hkey⟩ := hk
  have hlen := length_eraseP_succ (p := fun h => decide (h.ex.key = k)) hmem (decide_eq_true hkey)
  unfold Accounted at hx ⊢
  simp only [abortFromSlot, hx]
  rw [hlen, ofNat_succ]
  ac_rfl

theorem accounted_chargeSlot {x : Slot} {h : HeldRecord} (c n : Nat) (hh : x.queue.head? = some h) (hx : Accounted x) :
    Accounted (chargeSlot c n x) := by
  obtain ⟨rest, hq⟩ := List.head?_eq_some_iff.mp hh
  unfold Accounted at hx ⊢
  simp only [chargeSlot, hx, hq, List.tail_cons, List.length_cons, ofNat_succ]
  ac_rfl

theorem accounted_outstandingLowered {x : Slot} (hx : Accounted x) : Accounted (outstandingLowered x) := by
  obtain ⟨-, -, e⟩ | ⟨-, e⟩ := outstandingLowered_cases x <;> rw [e] <;> exact hx

theorem accounted_settledSlot {x : Slot} (cap refund n : Nat) (stale : Bool) (hx : Accounted x) :
    Accounted (settledSlot cap refund n stale x) := by
  cases stale
  · exact accounted_outstandingLowered hx
  · exact hx

theorem accounted_trafficSlot {x : Slot} (hx : Accounted x) : Accounted (trafficSlot x) := by
  unfold trafficSlot
  dsimp only
  split <;> exact hx

theorem accounted_resetSlots (i : SlotId) : Accounted resetSlots[i] := by
  rw [resetSlots_getElem]
  rfl

theorem admissionsAccounted_modSlot (i : SlotId) (g : Slot → Slot) (hs : AdmissionsAccounted s)
    (hg : Accounted (g (s.slot i))) : AdmissionsAccounted (s.modSlot i g) :=
  forall_slot_modSlot (Q := fun _ => Accounted) i g hs hg

theorem Move.admissionsAccounted (h : Move u s t) (hs : AdmissionsAccounted s) : AdmissionsAccounted t := by
  cases h with
  | applied v m x hpending halike hbalance hm hx => exact fun i => (halike i).accounted (hs i)
  | slots v halike hbalance => exact fun i => (halike i).accounted (hs i)
  | drained i hstate hzero => exact admissionsAccounted_modSlot i _ hs (hs i)
  | bound i a hi hvacant hmap => exact admissionsAccounted_modSlot i (boundSlot a) hs rfl
  | unbound i hi hopen => exact admissionsAccounted_modSlot i _ hs (accounted_withdrawnSlot (hs i))
  | admitted i f hslot hdraining hkey hroom => exact admissionsAccounted_modSlot i _ hs (accounted_admitToSlot _ (hs i))
  | aborted i k hheld => exact admissionsAccounted_modSlot i _ hs (accounted_abortFromSlot hheld (hs i))
  | released i h hhead hbound => exact admissionsAccounted_modSlot i _ hs (accounted_chargeSlot _ _ hhead (hs i))
  | closed r code n hr =>
    split
    · rw [settleSlot_eq]
      exact admissionsAccounted_modSlot _ _ hs (accounted_settledSlot _ _ _ _ (hs _))
    · exact hs
  | wentStale r hr hfresh =>
    split
    · rw [decrementOutstanding_eq]
      exact admissionsAccounted_modSlot (s := modOpen r.ex.key markStale s) _ _ hs (accounted_outstandingLowered (hs _))
    · exact hs
  | cleared =>
    intro i
    show Accounted ((s.mapSlots fun _ x => trafficSlot (withdrawnSlot x)).slot i)
    rw [slot_mapSlots]
    exact accounted_trafficSlot (accounted_withdrawnSlot (hs i))
  | held => exact accounted_resetSlots
  | fullReset => exact accounted_resetSlots
  | _ => exact hs

/-! ### The address map -/

/-- What the address map asks of one slot: the commons open and without an address, another slot with one exactly where it is
not VACANT. -/
def Placed (i : SlotId) (x : Slot) : Prop :=
  (i = 0 → x.state.Open ∧ x.address = none) ∧ (i ≠ 0 → (x.address = none ↔ x.state = .vacant))

/-- No two slots hold the same address. -/
def AddressesApart (s : State) : Prop :=
  ∀ i j : SlotId, (s.slot i).address ≠ none → (s.slot i).address = (s.slot j).address → i = j

theorem directorySound_iff (s : State) : DirectorySound s ↔ (∀ i, Placed i (s.slot i)) ∧ AddressesApart s := by
  constructor
  · rintro ⟨hopen, hnone, hmap, hapart⟩
    exact ⟨fun i => ⟨fun h => h ▸ ⟨hopen, hnone⟩, hmap i⟩, hapart⟩
  · rintro ⟨hplaced, hapart⟩
    exact ⟨((hplaced 0).1 rfl).1, ((hplaced 0).1 rfl).2, fun i => (hplaced i).2, hapart⟩

/-- Addresses stay apart where every slot keeps its own or gives it up. -/
theorem AddressesApart.of_kept (hs : AddressesApart s)
    (h : ∀ i, (t.slot i).address = (s.slot i).address ∨ (t.slot i).address = none) : AddressesApart t := by
  intro i j hi hij
  have hi' := (h i).resolve_right hi
  have hj' := (h j).resolve_right (hij ▸ hi)
  exact hs i j (hi' ▸ hi) (by rw [← hi', hij, hj'])

theorem directorySound_of_kept (hs : DirectorySound s)
    (h : ∀ i, Placed i (s.slot i) → Placed i (t.slot i))
    (hkept : ∀ i, (t.slot i).address = (s.slot i).address ∨ (t.slot i).address = none) : DirectorySound t := by
  rw [directorySound_iff] at hs ⊢
  exact ⟨fun i => h i (hs.1 i), hs.2.of_kept hkept⟩

theorem Alike.placed {i : SlotId} {x y : Slot} (h : Alike x y) (hx : Placed i x) : Placed i y := by
  refine ⟨fun hi => ?_, fun hi => ?_⟩
  · obtain ⟨⟨hvacant, hdraining⟩, haddress⟩ := hx.1 hi
    exact ⟨⟨fun e => hvacant (h.vacant_iff.mp e), fun e => hdraining (h.draining_iff.mp e)⟩, h.address ▸ haddress⟩
  · rw [h.address, h.vacant_iff]
    exact hx.2 hi

/-- A change of one slot that keeps its state and address, or takes it from DRAINING to VACANT. -/
theorem directorySound_modSlot (i : SlotId) (g : Slot → Slot) (hs : DirectorySound s)
    (hg : ((g (s.slot i)).state = (s.slot i).state ∧ (g (s.slot i)).address = (s.slot i).address) ∨
      ((s.slot i).state = .draining ∧ (g (s.slot i)).state = .vacant ∧ (g (s.slot i)).address = none)) :
    DirectorySound (s.modSlot i g) := by
  refine directorySound_of_kept hs (fun j hj => ?_) (fun j => ?_)
  · rw [slot_modSlot]
    split
    · next e =>
      subst e
      obtain ⟨hstate, haddress⟩ | ⟨hdraining, hvacant, hnone⟩ := hg
      · unfold Placed
        rw [hstate, haddress]
        exact hj
      · exact ⟨fun h0 => absurd hdraining (hj.1 h0).1.2, fun _ => iff_of_true hnone hvacant⟩
    · exact hj
  · rw [slot_modSlot]
    split
    · next e =>
      subst e
      exact hg.elim (fun h => .inl h.2) (fun h => .inr h.2.2)
    · exact .inl rfl

theorem outstandingLowered_directory (x : Slot) :
    ((outstandingLowered x).state = x.state ∧ (outstandingLowered x).address = x.address) ∨
      (x.state = .draining ∧ (outstandingLowered x).state = .vacant ∧ (outstandingLowered x).address = none) := by
  obtain ⟨hdraining, -, e⟩ | ⟨-, e⟩ := outstandingLowered_cases x <;> rw [e]
  · exact .inr ⟨hdraining, rfl, rfl⟩
  · exact .inl ⟨rfl, rfl⟩

theorem settledSlot_directory (cap refund n : Nat) (stale : Bool) (x : Slot) :
    ((settledSlot cap refund n stale x).state = x.state ∧ (settledSlot cap refund n stale x).address = x.address) ∨
      (x.state = .draining ∧ (settledSlot cap refund n stale x).state = .vacant ∧
        (settledSlot cap refund n stale x).address = none) := by
  cases stale
  · exact outstandingLowered_directory (countClose false n { x with balance := raiseBalance cap x.balance refund })
  · exact .inl ⟨rfl, rfl⟩

theorem trafficSlot_directory (x : Slot) :
    ((trafficSlot x).state = x.state ∧ (trafficSlot x).address = x.address) ∨
      (x.state = .draining ∧ (trafficSlot x).state = .vacant ∧ (trafficSlot x).address = none) := by
  unfold trafficSlot
  dsimp only
  split
  · next h => exact .inr ⟨h, rfl, rfl⟩
  · exact .inl ⟨rfl, rfl⟩

/-- The map holds no slot for an address that its lookup does not find. -/
theorem address_ne_of_mapLookup_none {a : FabAddr} (hs : DirectorySound s) (h : mapLookup s a = none) (i : SlotId) :
    (s.slot i).address ≠ some a := by
  intro ha
  obtain ⟨-, hnone, hmap, -⟩ := hs
  have hi : i ≠ 0 := fun e => by simp [e, hnone] at ha
  have hstate : (s.slot i).state ≠ .vacant := fun e => by simp [(hmap i hi).mpr e] at ha
  have hnot := List.find?_eq_none.mp h i (List.mem_finRange i)
  simp [hi, hstate, ha] at hnot

theorem directorySound_bindSlot {i : SlotId} {a : FabAddr} (hi : i ≠ 0) (hmap : mapLookup s a = none)
    (hs : DirectorySound s) : DirectorySound (bindSlot i a s) := by
  have hnew := address_ne_of_mapLookup_none hs hmap
  have hslot : ∀ j, (bindSlot i a s).slot j = if j = i then boundSlot a (s.slot i) else s.slot j :=
    fun j => slot_modSlot s i j (boundSlot a)
  rw [directorySound_iff] at hs ⊢
  refine ⟨fun j => ?_, fun j k hj hjk => ?_⟩
  · rw [hslot]
    split
    · next e => exact ⟨fun h0 => absurd (e ▸ h0) hi, fun _ => iff_of_false nofun nofun⟩
    · exact hs.1 j
  · rw [hslot j] at hj hjk
    rw [hslot k] at hjk
    by_cases ej : j = i <;> by_cases ek : k = i
    · rw [ej, ek]
    · rw [if_pos ej, if_neg ek] at hjk
      exact absurd hjk.symm (hnew k)
    · rw [if_neg ej, if_pos ek] at hjk
      exact absurd hjk (hnew j)
    · rw [if_neg ej] at hj hjk
      rw [if_neg ek] at hjk
      exact hs.2 j k hj hjk

theorem directorySound_reset (hslots : s.slots = resetSlots) : DirectorySound s := by
  have hslot : ∀ i, s.slot i = { resetSlot with state := if i = 0 then .bound else .vacant } := fun i => by
    rw [← resetSlots_getElem, ← hslots]
    rfl
  rw [directorySound_iff]
  refine ⟨fun i => ?_, fun i j hi => absurd (congrArg Slot.address (hslot i)) hi⟩
  rw [hslot]
  refine ⟨fun h0 => ?_, fun h0 => ?_⟩
  · rw [if_pos h0]
    exact ⟨⟨nofun, nofun⟩, rfl⟩
  · rw [if_neg h0]
    exact iff_of_true rfl rfl

theorem Move.directorySound (h : Move u s t) (hs : DirectorySound s) : DirectorySound t := by
  cases h with
  | applied v m x hpending halike hbalance hm hx =>
    exact directorySound_of_kept hs (fun i => (halike i).placed) (fun i => .inl (halike i).address)
  | slots v halike hbalance =>
    exact directorySound_of_kept hs (fun i => (halike i).placed) (fun i => .inl (halike i).address)
  | drained i hstate hzero => exact directorySound_modSlot i _ hs (.inr ⟨hstate, rfl, rfl⟩)
  | bound i a hi hvacant hmap => exact directorySound_bindSlot hi hmap hs
  | unbound i hi hopen =>
    refine directorySound_of_kept hs (fun j hj => ?_) (fun j => ?_) <;> rw [slot_modSlot] <;> split
    · next e =>
      refine ⟨fun h0 => absurd (e ▸ h0) hi, fun hj0 => iff_of_false (fun hnone => ?_) nofun⟩
      exact hopen.1 (e ▸ (hj.2 hj0).mp (e ▸ hnone))
    · exact hj
    · next e => exact .inl (congrArg (fun k => (s.slot k).address) e.symm)
    · exact .inl rfl
  | admitted i f hslot hdraining hkey hroom => exact directorySound_modSlot i _ hs (.inl ⟨rfl, rfl⟩)
  | aborted i k hheld => exact directorySound_modSlot i _ hs (.inl ⟨rfl, rfl⟩)
  | released i h hhead hbound => exact directorySound_modSlot i (chargeSlot _ _) hs (.inl ⟨rfl, rfl⟩)
  | closed r code n hr =>
    split
    · rw [settleSlot_eq]
      exact directorySound_modSlot _ _ hs (settledSlot_directory _ _ _ _ _)
    · exact hs
  | wentStale r hr hfresh =>
    split
    · rw [decrementOutstanding_eq]
      exact directorySound_modSlot (s := modOpen r.ex.key markStale s) _ _ hs (outstandingLowered_directory _)
    · exact hs
  | cleared =>
    have hslot : ∀ i, (s.mapSlots fun _ x => trafficSlot (withdrawnSlot x)).slot i = trafficSlot (withdrawnSlot (s.slot i)) :=
      fun i => slot_mapSlots _ _ i
    refine directorySound_of_kept (t := s.mapSlots fun _ x => trafficSlot (withdrawnSlot x)) hs (fun i hi => ?_) (fun i => ?_) <;>
      rw [hslot] <;> obtain ⟨hstate, haddress⟩ | ⟨hdraining, hvacant, hnone⟩ := trafficSlot_directory (withdrawnSlot (s.slot i))
    · unfold Placed
      rw [hstate, haddress]
      exact hi
    · exact ⟨fun h0 => absurd hdraining (hi.1 h0).1.2, fun _ => iff_of_true hnone hvacant⟩
    · exact .inl haddress
    · exact .inr hnone
  | held => exact directorySound_reset rfl
  | fullReset => exact directorySound_reset rfl
  | _ => exact hs

end Sys2Proof.Machine

/-! SUPPORT. The pool, move by move (R37). -/

namespace Sys2Proof.Machine

variable {u : Prop} {s t : State}

/-! ### Sums over the slots -/

/-- The sum over the slots of a number that each slot gives. -/
def sumSlots (f : Slot → Nat) (s : State) : Nat := (allSlots.map fun i => f (s.slot i)).sum

theorem sum_map_mono {f g : SlotId → Nat} (h : ∀ i, f i ≤ g i) (l : List SlotId) : (l.map f).sum ≤ (l.map g).sum := by
  induction l with
  | nil => exact Nat.le_refl _
  | cons i rest ih =>
    rw [List.map_cons, List.map_cons, List.sum_cons, List.sum_cons]
    exact Nat.add_le_add (h i) ih

/-- Two sums that differ at one index of the list. -/
theorem sum_map_exchange {f g : SlotId → Nat} {i : SlotId} (h : ∀ j, j ≠ i → f j = g j) {l : List SlotId} (hl : l.Nodup)
    (hi : i ∈ l) : (l.map f).sum + g i = (l.map g).sum + f i := by
  induction l with
  | nil => exact absurd hi List.not_mem_nil
  | cons j rest ih =>
    obtain ⟨hj, hrest⟩ := List.nodup_cons.mp hl
    rw [List.map_cons, List.map_cons, List.sum_cons, List.sum_cons]
    obtain rfl | hi := List.mem_cons.mp hi
    · have hsame : rest.map f = rest.map g := List.map_congr_left fun k hk => h k fun e => hj (e ▸ hk)
      rw [hsame]
      omega
    · have hji : f j = g j := h j fun e => hj (e ▸ hi)
      have := ih hrest hi
      omega

theorem sumSlots_eq_zero {f : Slot → Nat} (h : ∀ i, f (s.slot i) = 0) : sumSlots f s = 0 := by
  unfold sumSlots
  generalize allSlots = l
  induction l with
  | nil => rfl
  | cons i rest ih => rw [List.map_cons, List.sum_cons, h i, ih]

theorem sumSlots_congr {f : Slot → Nat} (h : ∀ i, f (t.slot i) = f (s.slot i)) : sumSlots f t = sumSlots f s := by
  simp only [sumSlots, h]

theorem sumSlots_mono {f : Slot → Nat} (h : ∀ i, f (t.slot i) ≤ f (s.slot i)) : sumSlots f t ≤ sumSlots f s := sum_map_mono h allSlots

/-- A change of one slot changes a sum by what that slot gives. -/
theorem sumSlots_modSlot (f : Slot → Nat) (s : State) (i : SlotId) (g : Slot → Slot) :
    sumSlots f (s.modSlot i g) + f (s.slot i) = sumSlots f s + f (g (s.slot i)) := by
  have hother (j : SlotId) (hj : j ≠ i) : f ((s.modSlot i g).slot j) = f (s.slot j) := by
    rw [slot_modSlot_other s i j g hj]
  have hsum := sum_map_exchange hother (List.nodup_finRange 128) (List.mem_finRange i)
  rw [slot_modSlot_self] at hsum
  exact hsum

theorem sumSlots_modSlot_of_eq {f : Slot → Nat} {i : SlotId} {g : Slot → Slot} (h : f (g (s.slot i)) = f (s.slot i)) :
    sumSlots f (s.modSlot i g) = sumSlots f s := by
  have := sumSlots_modSlot f s i g
  omega

theorem sumSlots_modSlot_of_le {f : Slot → Nat} {i : SlotId} {g : Slot → Slot} (h : f (g (s.slot i)) ≤ f (s.slot i)) :
    sumSlots f (s.modSlot i g) ≤ sumSlots f s := by
  have := sumSlots_modSlot f s i g
  omega

/-! ### The pool -/

theorem liveCount_eq (s : State) : liveCount s = s.tracker.released.length + sumSlots Slot.depth s := rfl

theorem outstandingLowered_queue (x : Slot) : (outstandingLowered x).queue = x.queue := by
  obtain ⟨-, -, e⟩ | ⟨-, e⟩ := outstandingLowered_cases x <;> rw [e]

theorem settledSlot_queue (cap refund n : Nat) (stale : Bool) (x : Slot) :
    (settledSlot cap refund n stale x).queue = x.queue := by
  cases stale
  · exact outstandingLowered_queue (countClose false n { x with balance := raiseBalance cap x.balance refund })
  · rfl

theorem depth_of_queue {x y : Slot} (h : y.queue = x.queue) : y.depth = x.depth := congrArg List.length h

/-- A close that has settled its slot, or discarded the refund, keeps every hold queue and the released list. -/
theorem settleIf_keeps (r : OpenRecord) (code n : Nat) (s : State) :
    (if generationTest s r.ex then settleSlot r code n s else s).tracker = s.tracker ∧
      ∀ i, ((if generationTest s r.ex then settleSlot r code n s else s).slot i).queue = (s.slot i).queue := by
  split
  · rw [settleSlot_eq]
    refine ⟨rfl, fun i => ?_⟩
    rw [slot_modSlot]
    split
    · next e => subst e; exact settledSlot_queue _ _ _ _ _
    · rfl
  · exact ⟨rfl, fun _ => rfl⟩

/-- A record that turns STALE keeps every hold queue and the length of the released list. -/
theorem lowerIf_keeps (r : OpenRecord) (s : State) :
    (if generationTest s r.ex then decrementOutstanding r.ex.slot (modOpen r.ex.key markStale s)
        else modOpen r.ex.key markStale s).tracker = (modOpen r.ex.key markStale s).tracker ∧
      ∀ i, ((if generationTest s r.ex then decrementOutstanding r.ex.slot (modOpen r.ex.key markStale s)
        else modOpen r.ex.key markStale s).slot i).queue = (s.slot i).queue := by
  split
  · rw [decrementOutstanding_eq]
    refine ⟨rfl, fun i => ?_⟩
    rw [slot_modSlot]
    split
    · next e => subst e; exact outstandingLowered_queue _
    · rfl
  · exact ⟨rfl, fun _ => rfl⟩

theorem poolBounded_empty (hreleased : s.tracker.released = []) (hqueue : ∀ i, (s.slot i).queue = []) : PoolBounded s := by
  have hzero : sumSlots Slot.depth s = 0 := sumSlots_eq_zero fun i => congrArg List.length (hqueue i)
  unfold PoolBounded
  rw [liveCount_eq, hreleased, hzero]
  decide

theorem poolBounded_of_le (hs : PoolBounded s) (hreleased : t.tracker.released.length ≤ s.tracker.released.length)
    (hdepth : sumSlots Slot.depth t ≤ sumSlots Slot.depth s) : PoolBounded t := by
  unfold PoolBounded at hs ⊢
  rw [liveCount_eq] at hs ⊢
  omega

theorem resetSlots_queue (i : SlotId) : resetSlots[i].queue = [] := congrArg Slot.queue (resetSlots_getElem i)

theorem trafficSlot_queue (x : Slot) : (trafficSlot x).queue = x.queue := by
  unfold trafficSlot
  dsimp only
  split <;> rfl

theorem Move.poolBounded (h : Move u s t) (hs : PoolBounded s) : PoolBounded t := by
  cases h with
  | applied v m x hpending halike hbalance hm hx =>
    exact poolBounded_of_le hs (Nat.le_refl _) (sumSlots_mono fun i => Nat.le_of_eq (halike i).depth)
  | slots v halike hbalance => exact poolBounded_of_le hs (Nat.le_refl _) (sumSlots_mono fun i => Nat.le_of_eq (halike i).depth)
  | drained i hstate hzero => exact poolBounded_of_le hs (Nat.le_refl _) (Nat.le_of_eq (sumSlots_modSlot_of_eq rfl))
  | bound i a hi hvacant hmap =>
    exact poolBounded_of_le hs (Nat.le_refl _) (sumSlots_modSlot_of_le (g := boundSlot a) (Nat.zero_le _))
  | unbound i hi hopen => exact poolBounded_of_le hs (Nat.le_refl _) (sumSlots_modSlot_of_le (Nat.zero_le _))
  | admitted i f hslot hdraining hkey hroom =>
    have hsum := sumSlots_modSlot Slot.depth s i (admitToSlot (heldRecord s i f))
    have hdepth : (admitToSlot (heldRecord s i f) (s.slot i)).depth = (s.slot i).depth + 1 := by
      simp [admitToSlot, markAdmission, Slot.depth]
    unfold PoolBounded
    rw [liveCount_eq] at hroom ⊢
    simp only [modSlot_tracker]
    omega
  | aborted i k hheld =>
    exact poolBounded_of_le hs (Nat.le_refl _) (sumSlots_modSlot_of_le (List.length_eraseP_le))
  | released i h hhead hbound =>
    have hsum := sumSlots_modSlot Slot.depth s i (chargeSlot (headCost s h) h.ex.length)
    obtain ⟨rest, hq⟩ := List.head?_eq_some_iff.mp hhead
    have hbefore : (s.slot i).depth = rest.length + 1 := by simp [Slot.depth, hq]
    have hafter : (chargeSlot (headCost s h) h.ex.length (s.slot i)).depth = rest.length := by
      simp [chargeSlot, Slot.depth, hq]
    have hlive : liveCount (releaseHead i h s) =
        (s.tracker.released ++ [releasedRecord s h]).length +
          sumSlots Slot.depth (s.modSlot i (chargeSlot (headCost s h) h.ex.length)) := rfl
    unfold PoolBounded at hs ⊢
    rw [liveCount_eq] at hs
    rw [hlive, List.length_append, List.length_singleton]
    omega
  | noted k g hg => exact poolBounded_of_le hs (Nat.le_of_eq (List.length_map _)) (Nat.le_refl _)
  | closed r code n hr =>
    obtain ⟨htracker, hqueue⟩ := settleIf_keeps r code n s
    refine poolBounded_of_le hs ?_ (sumSlots_mono fun i => Nat.le_of_eq (depth_of_queue (hqueue i)))
    exact Nat.le_trans List.length_eraseP_le (Nat.le_of_eq (congrArg (fun x => x.released.length) htracker))
  | wentStale r hr hfresh =>
    obtain ⟨htracker, hqueue⟩ := lowerIf_keeps r s
    refine poolBounded_of_le hs ?_ (sumSlots_mono fun i => Nat.le_of_eq (depth_of_queue (hqueue i)))
    rw [htracker]
    exact Nat.le_of_eq (List.length_map _)
  | orphaned r hr => exact poolBounded_of_le hs List.length_eraseP_le (Nat.le_refl _)
  | cleared =>
    refine poolBounded_empty rfl fun i => ?_
    show ((s.mapSlots fun _ x => trafficSlot (withdrawnSlot x)).slot i).queue = []
    rw [slot_mapSlots, trafficSlot_queue]
    rfl
  | held => exact poolBounded_empty rfl resetSlots_queue
  | fullReset => exact poolBounded_empty rfl resetSlots_queue
  | _ => exact hs

end Sys2Proof.Machine

/-! SUPPORT. What the soundness of the records says key by key and slot by slot. -/

namespace Sys2Proof.Machine

variable {u : Prop} {s t : State}

/-! ### Records: keys counted, slots one by one -/

/-- How many records of a hold queue bear a key. -/
def keyDepth (k : ExchangeKey) (x : Slot) : Nat := x.queue.countP fun h => decide (h.ex.key = k)

/-- How many records of a released list bear a key. -/
def openKeys (k : ExchangeKey) (l : List OpenRecord) : Nat := l.countP fun r => decide (r.ex.key = k)

/-- How many records of a released list are RELEASED or ABORTING records of a slot. -/
def openCount (l : List OpenRecord) (i : SlotId) : Nat := l.countP fun r => decide (r.ex.slot = i) && decide (r.state ≠ .stale)

theorem count_liveKeys (s : State) (k : ExchangeKey) :
    (liveKeys s).count k = sumSlots (keyDepth k) s + openKeys k s.tracker.released := by
  unfold liveKeys sumSlots keyDepth openKeys
  rw [List.count_append, List.count_flatMap]
  simp only [List.count_eq_countP, List.countP_map, Function.comp_def, Bool.beq_eq_decide_eq]

/-- Keys are unique where no key is borne twice. -/
theorem keysUnique_iff (s : State) :
    KeysUnique s ↔ ∀ k, sumSlots (keyDepth k) s + openKeys k s.tracker.released ≤ 1 := by
  unfold KeysUnique
  rw [List.nodup_iff_count]
  exact forall_congr' fun k => by rw [count_liveKeys]

/-- What the records ask of one slot, given the released list (R19, R25, R29, R49). -/
structure SlotRecords (l : List OpenRecord) (i : SlotId) (x : Slot) : Prop where
  held : ∀ h ∈ x.queue, h.ex.slot = i ∧ h.ex.gen = x.gen
  current : ∀ r ∈ l, r.ex.slot = i → r.state ≠ .stale → r.ex.gen = x.gen
  exact : x.outstanding = openCount l i
  vacant : x.state = .vacant → x.outstanding = 0
  closed : x.state = .vacant ∨ x.state = .draining → x.queue = []
  commons : i = 0 → x.state.Open

theorem recordsSound_iff (s : State) :
    RecordsSound s ↔ KeysUnique s ∧ ∀ i, SlotRecords s.tracker.released i (s.slot i) := by
  constructor
  · rintro ⟨hkeys, hcommons, hheld, hcurrent, hexact, hclosed⟩
    exact ⟨hkeys, fun i =>
      ⟨hheld i, fun r hr hi hfresh => hi ▸ hcurrent r hr hfresh, (hexact i).1, (hexact i).2, hclosed i,
        fun h => h ▸ hcommons⟩⟩
  · rintro ⟨hkeys, h⟩
    exact ⟨hkeys, (h 0).commons rfl, fun i => (h i).held, fun r hr hfresh => (h r.ex.slot).current r hr rfl hfresh,
      fun i => ⟨(h i).exact, (h i).vacant⟩, fun i => (h i).closed⟩

/-! ### One slot under a change of its contents or of the released list -/

theorem Alike.slotRecords {l : List OpenRecord} {i : SlotId} {x y : Slot} (h : Alike x y) (hx : SlotRecords l i x) :
    SlotRecords l i y := by
  refine ⟨fun e he => ?_, fun r hr hi hfresh => h.gen ▸ hx.current r hr hi hfresh, h.outstanding ▸ hx.exact, fun hv => ?_,
    fun hc => ?_, fun h0 => ?_⟩
  · have hmem : e.ex ∈ x.queue.map (·.ex) := h.exchanges ▸ List.mem_map_of_mem he
    obtain ⟨e', he', hex⟩ := List.mem_map.mp hmem
    rw [← hex, h.gen]
    exact hx.held e' he'
  · rw [h.outstanding]
    exact hx.vacant (h.vacant_iff.mp hv)
  · have hq := hx.closed (hc.imp h.vacant_iff.mp h.draining_iff.mp)
    have := h.exchanges
    rwa [hq, List.map_nil, List.map_eq_nil_iff] at this
  · exact ⟨fun e => (hx.commons h0).1 (h.vacant_iff.mp e), fun e => (hx.commons h0).2 (h.draining_iff.mp e)⟩

/-- A released list with the same RELEASED and ABORTING records of the slot. -/
theorem SlotRecords.kept {l l' : List OpenRecord} {i : SlotId} {x : Slot} (hx : SlotRecords l i x)
    (hcount : openCount l' i = openCount l i)
    (hsub : ∀ r ∈ l', r.ex.slot = i → r.state ≠ .stale → ∃ r' ∈ l, r'.ex.slot = i ∧ r'.state ≠ .stale ∧ r'.ex.gen = r.ex.gen) :
    SlotRecords l' i x := by
  refine ⟨hx.held, fun r hr hi hfresh => ?_, hcount ▸ hx.exact, hx.vacant, hx.closed, hx.commons⟩
  obtain ⟨r', hr', hi', hfresh', hgen⟩ := hsub r hr hi hfresh
  exact hgen ▸ hx.current r' hr' hi' hfresh'

/-- The slot's outstanding count falls by one with one of its RELEASED and ABORTING records gone or STALE. -/
theorem SlotRecords.lowered {l l' : List OpenRecord} {i : SlotId} {x : Slot} (hx : SlotRecords l i x)
    (hcount : openCount l i = openCount l' i + 1)
    (hsub : ∀ r ∈ l', r.ex.slot = i → r.state ≠ .stale → r ∈ l) : SlotRecords l' i (outstandingLowered x) := by
  have hlow : x.outstanding - 1 = openCount l' i := by
    have := hx.exact
    omega
  obtain ⟨hdraining, hzero, e⟩ | ⟨-, e⟩ := outstandingLowered_cases x <;> rw [e]
  · exact ⟨hx.held, fun r hr hi hfresh => hx.current r (hsub r hr hi hfresh) hi hfresh, hlow, fun _ => hzero,
      fun _ => hx.closed (.inr hdraining), fun h0 => absurd hdraining (hx.commons h0).2⟩
  · refine ⟨hx.held, fun r hr hi hfresh => hx.current r (hsub r hr hi hfresh) hi hfresh, hlow, fun hv => ?_, hx.closed,
      hx.commons⟩
    show x.outstanding - 1 = 0
    rw [hx.vacant hv]

/-- A RELEASED or ABORTING record passes the generation test: its slot is not VACANT, since it counts as outstanding. -/
theorem generationTest_of_fresh {r : OpenRecord} (hs : RecordsSound s) (hr : r ∈ s.tracker.released)
    (hfresh : r.state ≠ .stale) : generationTest s r.ex = true := by
  have hslot := ((recordsSound_iff s).mp hs).2 r.ex.slot
  have hpos : 0 < openCount s.tracker.released r.ex.slot := List.countP_pos_iff.mpr ⟨r, hr, by simp [hfresh]⟩
  have hvacant : (s.slot r.ex.slot).state ≠ .vacant := fun hv => by
    have := hslot.vacant hv
    have := hslot.exact
    omega
  simp [generationTest, hslot.current r hr rfl hfresh, hvacant]

/-! ### One record of the released list -/

theorem openKeys_split (l₁ l₂ : List OpenRecord) (r : OpenRecord) (k : ExchangeKey) :
    openKeys k (l₁ ++ r :: l₂) = openKeys k (l₁ ++ l₂) + if r.ex.key = k then 1 else 0 := by
  unfold openKeys
  rw [List.countP_append, List.countP_append, List.countP_cons]
  simp only [decide_eq_true_eq]
  omega

/-- With unique keys a released record is the only one that bears its key. -/
theorem released_split {r : OpenRecord} (hs : KeysUnique s) (hr : r ∈ s.tracker.released) :
    ∃ l₁ l₂, s.tracker.released = l₁ ++ r :: l₂ ∧ ∀ r' ∈ l₁ ++ l₂, r'.ex.key ≠ r.ex.key := by
  obtain ⟨l₁, l₂, hl⟩ := List.append_of_mem hr
  refine ⟨l₁, l₂, hl, fun r' hr' hkey => ?_⟩
  have hone := (keysUnique_iff s).mp hs r.ex.key
  have hpos : 0 < openKeys r.ex.key (l₁ ++ l₂) := List.countP_pos_iff.mpr ⟨r', hr', decide_eq_true hkey⟩
  rw [hl, openKeys_split, if_pos rfl] at hone
  omega

theorem eraseP_split {r : OpenRecord} {l₁ l₂ : List OpenRecord} (h : ∀ r' ∈ l₁ ++ l₂, r'.ex.key ≠ r.ex.key) :
    (l₁ ++ r :: l₂).eraseP (fun r' => decide (r'.ex.key = r.ex.key)) = l₁ ++ l₂ := by
  rw [List.eraseP_append_right _ fun r' hr' => by simpa using h r' (List.mem_append_left _ hr')]
  simp

theorem map_split {r : OpenRecord} {l₁ l₂ : List OpenRecord} (g : OpenRecord → OpenRecord)
    (h : ∀ r' ∈ l₁ ++ l₂, r'.ex.key ≠ r.ex.key) :
    ((l₁ ++ r :: l₂).map fun r' => if r'.ex.key = r.ex.key then g r' else r') = l₁ ++ g r :: l₂ := by
  have hsame : ∀ l : List OpenRecord, (∀ r' ∈ l, r'.ex.key ≠ r.ex.key) →
      (l.map fun r' => if r'.ex.key = r.ex.key then g r' else r') = l := fun l hl => by
    exact (List.map_congr_left fun r' hr' => if_neg (hl r' hr')).trans (List.map_id' l)
  rw [List.map_append, List.map_cons, if_pos rfl, hsame l₁ fun r' hr' => h r' (List.mem_append_left _ hr'),
    hsame l₂ fun r' hr' => h r' (List.mem_append_right _ hr')]

theorem openCount_split (l₁ l₂ : List OpenRecord) (r : OpenRecord) (i : SlotId) :
    openCount (l₁ ++ r :: l₂) i = openCount (l₁ ++ l₂) i + if r.ex.slot = i ∧ r.state ≠ .stale then 1 else 0 := by
  unfold openCount
  rw [List.countP_append, List.countP_append, List.countP_cons]
  simp only [Bool.and_eq_true, decide_eq_true_eq]
  omega

theorem mem_split {r r' : OpenRecord} {l₁ l₂ : List OpenRecord} (h : r' ∈ l₁ ++ l₂) : r' ∈ l₁ ++ r :: l₂ := by
  rw [List.mem_append] at h ⊢
  exact h.imp_right (List.mem_cons_of_mem r)

/-- A STALE record leaves the released list without a slot's noticing. -/
theorem SlotRecords.withoutStale {l₁ l₂ : List OpenRecord} {r : OpenRecord} {i : SlotId} {x : Slot}
    (hx : SlotRecords (l₁ ++ r :: l₂) i x) (hstale : r.state = .stale) : SlotRecords (l₁ ++ l₂) i x :=
  hx.kept (by rw [openCount_split, if_neg (by simp [hstale])]; rfl) fun r' hr' hi hfresh => ⟨r', mem_split hr', hi, hfresh, rfl⟩

/-- A record of another slot leaves the released list, or turns STALE in it, without this slot's noticing. -/
theorem SlotRecords.withoutOther {l₁ l₂ : List OpenRecord} {r : OpenRecord} {i : SlotId} {x : Slot}
    (hx : SlotRecords (l₁ ++ r :: l₂) i x) (hi : r.ex.slot ≠ i) : SlotRecords (l₁ ++ l₂) i x :=
  hx.kept (by rw [openCount_split, if_neg (by simp [hi])]; rfl) fun r' hr' hi hfresh => ⟨r', mem_split hr', hi, hfresh, rfl⟩

/-- A STALE record joins the released list without a slot's noticing. -/
theorem SlotRecords.withStale {l₁ l₂ : List OpenRecord} {r : OpenRecord} {i : SlotId} {x : Slot}
    (hx : SlotRecords (l₁ ++ l₂) i x) (hstale : r.state = .stale) : SlotRecords (l₁ ++ r :: l₂) i x := by
  refine hx.kept (by rw [openCount_split, if_neg (by simp [hstale])]; rfl) fun r' hr' hi hfresh => ⟨r', ?_, hi, hfresh, rfl⟩
  obtain h | h := List.mem_append.mp hr'
  · exact List.mem_append_left _ h
  · obtain rfl | h := List.mem_cons.mp h
    · exact absurd hstale hfresh
    · exact List.mem_append_right _ h

/-- A RELEASED or ABORTING record of the slot leaves the released list, and the slot's count falls by one. -/
theorem SlotRecords.lowered_without {l₁ l₂ : List OpenRecord} {r : OpenRecord} {x : Slot}
    (hx : SlotRecords (l₁ ++ r :: l₂) r.ex.slot x) (hfresh : r.state ≠ .stale) :
    SlotRecords (l₁ ++ l₂) r.ex.slot (outstandingLowered x) :=
  hx.lowered (by rw [openCount_split, if_pos ⟨rfl, hfresh⟩]) fun _ hr' _ _ => mem_split hr'

end Sys2Proof.Machine

/-! SUPPORT. The records, move by move (R29, R37, R40, R49). -/

namespace Sys2Proof.Machine

variable {u : Prop} {s t : State}

/-! ### Records: every move -/

theorem keysUnique_of_le (hs : KeysUnique s) (hheld : ∀ k, sumSlots (keyDepth k) t ≤ sumSlots (keyDepth k) s)
    (hopen : ∀ k, openKeys k t.tracker.released ≤ openKeys k s.tracker.released) : KeysUnique t := by
  rw [keysUnique_iff] at hs ⊢
  exact fun k => Nat.le_trans (Nat.add_le_add (hheld k) (hopen k)) (hs k)

theorem Alike.keyDepth {x y : Slot} (h : Alike x y) (k : ExchangeKey) : keyDepth k y = keyDepth k x := by
  have hcount : ∀ z : Slot, Machine.keyDepth k z = (z.queue.map (·.ex)).countP fun e => decide (e.key = k) := fun z => by
    rw [List.countP_map]
    rfl
  rw [hcount, hcount, h.exchanges]

theorem keyDepth_of_queue {x y : Slot} (h : y.queue = x.queue) (k : ExchangeKey) : keyDepth k y = keyDepth k x := by
  unfold keyDepth
  rw [h]

theorem recordsSound_alike (hs : RecordsSound s) (ht : t.tracker.released = s.tracker.released)
    (h : ∀ i, Alike (s.slot i) (t.slot i)) : RecordsSound t := by
  rw [recordsSound_iff] at hs ⊢
  rw [ht]
  exact ⟨keysUnique_of_le hs.1 (fun k => Nat.le_of_eq (sumSlots_congr fun i => (h i).keyDepth k))
      (fun k => Nat.le_of_eq (congrArg (openKeys k) ht)),
    fun i => (h i).slotRecords (hs.2 i)⟩

theorem recordsSound_modSlot (i : SlotId) (g : Slot → Slot) (hs : RecordsSound s)
    (hkeys : ∀ k, keyDepth k (g (s.slot i)) ≤ keyDepth k (s.slot i))
    (hg : SlotRecords s.tracker.released i (g (s.slot i))) : RecordsSound (s.modSlot i g) := by
  rw [recordsSound_iff] at hs ⊢
  exact ⟨keysUnique_of_le hs.1 (fun k => sumSlots_modSlot_of_le (hkeys k)) (fun _ => (Nat.le_refl _)),
    forall_slot_modSlot (Q := SlotRecords s.tracker.released) i g hs.2 hg⟩

/-- Nothing held, nothing released, and slot 0 open. -/
theorem recordsSound_empty (hreleased : s.tracker.released = []) (hqueue : ∀ i, (s.slot i).queue = [])
    (houtstanding : ∀ i, (s.slot i).outstanding = 0) (hcommons : (s.slot 0).state.Open) : RecordsSound s := by
  rw [recordsSound_iff, keysUnique_iff, hreleased]
  refine ⟨fun k => ?_, fun i => ⟨fun h hh => ?_, nofun, houtstanding i, fun _ => houtstanding i, fun _ => hqueue i,
    fun h => h ▸ hcommons⟩⟩
  · rw [sumSlots_eq_zero fun i => by rw [keyDepth, hqueue]; rfl]
    exact Nat.zero_le _
  · rw [hqueue] at hh
    exact absurd hh List.not_mem_nil

/-- A key that no live record bears is counted nowhere. -/
theorem keyCount_eq_zero {k : ExchangeKey} (h : keyLive s k = false) :
    sumSlots (keyDepth k) s = 0 ∧ openKeys k s.tracker.released = 0 := by
  unfold keyLive heldSlot openRecord at h
  simp only [Bool.or_eq_false_iff, Option.isSome_eq_false_iff, Option.isNone_iff_eq_none, List.find?_eq_none] at h
  constructor
  · refine sumSlots_eq_zero fun i => List.countP_eq_zero.mpr fun e he => ?_
    have := h.1 i (List.mem_finRange i)
    simp only [List.any_eq_true, not_exists, not_and] at this
    exact this e he
  · exact List.countP_eq_zero.mpr h.2

theorem recordsSound_admit {i : SlotId} {f : Frame} (hs : RecordsSound s) (hopen : (s.slot i).state.Open)
    (hkey : keyLive s (keyOf .f f) = false) : RecordsSound (s.modSlot i (admitToSlot (heldRecord s i f))) := by
  rw [recordsSound_iff] at hs ⊢
  obtain ⟨hkeys, hslots⟩ := hs
  have hdepth : ∀ k, keyDepth k (admitToSlot (heldRecord s i f) (s.slot i)) =
      keyDepth k (s.slot i) + if keyOf .f f = k then 1 else 0 := fun k => by
    have e : (admitToSlot (heldRecord s i f) (s.slot i)).queue = (s.slot i).queue ++ [heldRecord s i f] := rfl
    unfold keyDepth
    rw [e, List.countP_append, List.countP_singleton]
    simp only [decide_eq_true_eq]
    rfl
  refine ⟨(keysUnique_iff _).mpr fun k => ?_, forall_slot_modSlot (Q := SlotRecords s.tracker.released) i _ hslots ?_⟩
  · have hsum := sumSlots_modSlot (keyDepth k) s i (admitToSlot (heldRecord s i f))
    rw [hdepth] at hsum
    have hone := (keysUnique_iff s).mp hkeys k
    simp only [modSlot_tracker]
    split at hsum
    · next e =>
      obtain ⟨hheld, hreleased⟩ := keyCount_eq_zero hkey
      rw [e] at hheld hreleased
      omega
    · omega
  · have hi := hslots i
    refine ⟨fun h hh => ?_, hi.current, hi.exact, hi.vacant, fun hc => ?_, hi.commons⟩
    · obtain hold | hnew := List.mem_append.mp hh
      · exact hi.held h hold
      · rw [List.mem_singleton.mp hnew]
        exact ⟨rfl, rfl⟩
    · exact absurd hc (not_or.mpr ⟨hopen.1, hopen.2⟩)

theorem recordsSound_release {i : SlotId} {h : HeldRecord} (hs : RecordsSound s) (hhead : headOf s i = some h)
    (hbound : (s.slot i).state = .bound) : RecordsSound (releaseHead i h s) := by
  rw [recordsSound_iff] at hs ⊢
  obtain ⟨hkeys, hslots⟩ := hs
  obtain ⟨rest, hq⟩ := List.head?_eq_some_iff.mp hhead
  have hplace := (hslots i).held h (hq ▸ List.mem_cons_self)
  have hreleased : (releaseHead i h s).tracker.released = s.tracker.released ++ releasedRecord s h :: [] := rfl
  have hslot : ∀ j, (releaseHead i h s).slot j = (s.modSlot i (chargeSlot (headCost s h) h.ex.length)).slot j := fun _ => rfl
  have hcount : ∀ j, openCount (s.tracker.released ++ releasedRecord s h :: []) j =
      openCount s.tracker.released j + if i = j then 1 else 0 := fun j => by
    rw [openCount_split, List.append_nil]
    simp [releasedRecord, hplace.1]
  rw [hreleased]
  refine ⟨(keysUnique_iff _).mpr fun k => ?_, fun j => ?_⟩
  · have hsum := sumSlots_modSlot (keyDepth k) s i (chargeSlot (headCost s h) h.ex.length)
    have hbefore : keyDepth k (s.slot i) = (rest.countP fun e => decide (e.ex.key = k)) + if h.ex.key = k then 1 else 0 := by
      unfold keyDepth
      rw [hq, List.countP_cons]
      simp only [decide_eq_true_eq]
    have hafter : keyDepth k (chargeSlot (headCost s h) h.ex.length (s.slot i)) = rest.countP fun e => decide (e.ex.key = k) := by
      unfold keyDepth chargeSlot
      rw [hq]
      rfl
    have hone := (keysUnique_iff s).mp hkeys k
    have hsame : sumSlots (keyDepth k) (releaseHead i h s) =
        sumSlots (keyDepth k) (s.modSlot i (chargeSlot (headCost s h) h.ex.length)) := sumSlots_congr fun j => by rw [hslot]
    rw [hreleased, openKeys_split, List.append_nil, hsame]
    have hrec : (releasedRecord s h).ex.key = h.ex.key := rfl
    rw [hrec]
    omega
  · rw [hslot, slot_modSlot]
    have hj := hslots j
    split
    · next e =>
      subst e
      refine ⟨fun e he => hj.held e (List.mem_of_mem_tail he), fun r hr hi hfresh => ?_, ?_, fun hv => ?_, fun hc => ?_,
        hj.commons⟩
      · obtain hold | hnew := List.mem_append.mp hr
        · exact hj.current r hold hi hfresh
        · rw [List.mem_singleton.mp hnew]
          exact hplace.2
      · rw [hcount, if_pos rfl, ← hj.exact]
        rfl
      · exact absurd (hbound.symm.trans hv) nofun
      · exact hc.elim (fun hv => absurd (hbound.symm.trans hv) nofun) (fun hv => absurd (hbound.symm.trans hv) nofun)
    · next e =>
      refine hj.kept (by rw [hcount, if_neg (Ne.symm e)]; rfl) fun r hr hi hfresh => ?_
      obtain hold | hnew := List.mem_append.mp hr
      · exact ⟨r, hold, hi, hfresh, rfl⟩
      · rw [List.mem_singleton.mp hnew] at hi
        exact absurd (hi.symm.trans hplace.1) e

theorem recordsSound_bind {i : SlotId} {a : FabAddr} (hs : RecordsSound s) (hi : i ≠ 0) (hvacant : (s.slot i).state = .vacant) :
    RecordsSound (s.modSlot i (boundSlot a)) := by
  have hslot := ((recordsSound_iff s).mp hs).2 i
  have hnone := hslot.exact.symm.trans (hslot.vacant hvacant)
  refine recordsSound_modSlot i _ hs (fun k => Nat.zero_le _) ⟨nofun, fun r hr hri hfresh => ?_, hnone.symm, nofun, nofun,
    fun h0 => absurd h0 hi⟩
  exact absurd (List.countP_eq_zero.mp hnone r hr) (by simp [hri, hfresh])

/-- With unique keys a key leads to one released record, changed or not. -/
theorem recordsSound_note {k : ExchangeKey} {g : OpenRecord → OpenRecord} (hg : ∀ r, OpenAlike r (g r)) (hs : RecordsSound s) :
    RecordsSound (modOpen k g s) := by
  have halike : ∀ r, OpenAlike r (if r.ex.key = k then g r else r) := fun r => by
    split
    · exact hg r
    · exact ⟨rfl, rfl, rfl, Iff.rfl⟩
  rw [recordsSound_iff] at hs ⊢
  refine ⟨keysUnique_of_le hs.1 (fun _ => (Nat.le_refl _)) (fun k' => ?_), fun i => (hs.2 i).kept ?_ fun r hr hi hfresh => ?_⟩
  · show openKeys k' (s.tracker.released.map _) ≤ _
    unfold openKeys
    rw [List.countP_map]
    exact Nat.le_of_eq (List.countP_congr fun r _ => by simp [(halike r).key])
  · show openCount (s.tracker.released.map _) i = _
    unfold openCount
    rw [List.countP_map]
    exact List.countP_congr fun r _ => by simp [(halike r).slot, (halike r).stale]
  · obtain ⟨r₀, hr₀, rfl⟩ := List.mem_map.mp hr
    exact ⟨r₀, hr₀, (halike r₀).slot ▸ hi, fun h => hfresh ((halike r₀).stale.mpr h), (halike r₀).gen.symm⟩

/-- A released record taken out, its slot's count lowered where it was RELEASED or ABORTING. -/
theorem recordsSound_take {r : OpenRecord} {l₁ l₂ : List OpenRecord} (hs : RecordsSound s)
    (hl : s.tracker.released = l₁ ++ r :: l₂) (ht : t.tracker.released = l₁ ++ l₂)
    (hslots : ∀ i, Alike (if i = r.ex.slot ∧ r.state ≠ .stale then outstandingLowered (s.slot i) else s.slot i) (t.slot i)) :
    RecordsSound t := by
  rw [recordsSound_iff] at hs ⊢
  obtain ⟨hkeys, hrecords⟩ := hs
  refine ⟨keysUnique_of_le hkeys (fun k => Nat.le_of_eq (sumSlots_congr fun i => ?_)) (fun k => ?_), fun i => ?_⟩
  · rw [(hslots i).keyDepth]
    split
    · exact keyDepth_of_queue (outstandingLowered_queue _) k
    · rfl
  · rw [ht, hl, openKeys_split]
    exact Nat.le_add_right _ _
  · rw [ht]
    have hi := hl ▸ hrecords i
    refine (hslots i).slotRecords ?_
    split
    · next h => exact h.1 ▸ (h.1 ▸ hi).lowered_without h.2
    · next h =>
      by_cases hstale : r.state = .stale
      · exact hi.withoutStale hstale
      · exact hi.withoutOther fun e => h ⟨e.symm, hstale⟩

theorem settledSlot_alike (cap refund n : Nat) (r : OpenRecord) (x : Slot) :
    Alike (if r.state ≠ .stale then outstandingLowered x else x) (settledSlot cap refund n (decide (r.state = .stale)) x) := by
  by_cases hstale : r.state = .stale
  · simp only [hstale, decide_true, ne_eq, not_true, if_false]
    exact ⟨.inl rfl, rfl, rfl, rfl, rfl, rfl, rfl, rfl, rfl⟩
  · simp only [hstale, decide_false, ne_eq, not_false_eq_true, if_true]
    by_cases h : x.state = .draining ∧ x.outstanding - 1 = 0
    · have hlow : outstandingLowered x = { x with outstanding := x.outstanding - 1, state := .vacant, address := none, balance := 0 } :=
        if_pos h
      have hset : settledSlot cap refund n false x =
          { countClose false n { x with balance := raiseBalance cap x.balance refund } with
            outstanding := x.outstanding - 1, state := .vacant, address := none, balance := 0 } := if_pos h
      rw [hlow, hset]
      exact ⟨.inl rfl, rfl, rfl, rfl, rfl, rfl, rfl, rfl, rfl⟩
    · have hlow : outstandingLowered x = { x with outstanding := x.outstanding - 1 } := if_neg h
      have hset : settledSlot cap refund n false x =
          { countClose false n { x with balance := raiseBalance cap x.balance refund } with
            outstanding := x.outstanding - 1 } := if_neg h
      rw [hlow, hset]
      exact ⟨.inl rfl, rfl, rfl, rfl, rfl, rfl, rfl, rfl, rfl⟩

theorem recordsSound_close {r : OpenRecord} (code n : Nat) (hs : RecordsSound s) (hr : r ∈ s.tracker.released) :
    RecordsSound (freeOpen r.ex.key (if generationTest s r.ex then settleSlot r code n s else s)) := by
  obtain ⟨l₁, l₂, hl, hother⟩ := released_split hs.1 hr
  refine recordsSound_take (r := r) hs hl ?_ fun i => ?_
  · show List.eraseP _ _ = _
    rw [(settleIf_keeps r code n s).1, hl, eraseP_split hother]
  · rw [freeOpen_slot]
    by_cases hgen : generationTest s r.ex = true
    · rw [if_pos hgen, settleSlot_eq, slot_modSlot]
      by_cases hi : i = r.ex.slot
      · subst hi
        simp only [true_and, if_true]
        exact settledSlot_alike _ _ _ _ _
      · rw [if_neg hi, if_neg fun h => hi h.1]
        exact Alike.refl _
    · have hstale : ¬ r.state ≠ .stale := fun hfresh => hgen (generationTest_of_fresh hs hr hfresh)
      rw [if_neg hgen, if_neg fun h => hstale h.2]
      exact Alike.refl _

theorem recordsSound_turnStale {r : OpenRecord} (hs : RecordsSound s) (hr : r ∈ s.tracker.released) (hfresh : r.state ≠ .stale) :
    RecordsSound (decrementOutstanding r.ex.slot (modOpen r.ex.key markStale s)) := by
  obtain ⟨l₁, l₂, hl, hother⟩ := released_split hs.1 hr
  rw [decrementOutstanding_eq]
  have htaken : RecordsSound ({ s.modSlot r.ex.slot outstandingLowered with tracker := { s.tracker with released := l₁ ++ l₂ } }) := by
    refine recordsSound_take (r := r) hs hl rfl fun i => ?_
    show Alike _ ((s.modSlot r.ex.slot outstandingLowered).slot i)
    rw [slot_modSlot]
    by_cases hi : i = r.ex.slot
    · subst hi
      rw [if_pos ⟨rfl, hfresh⟩, if_pos rfl]
      exact Alike.refl _
    · rw [if_neg hi, if_neg fun h => hi h.1]
      exact Alike.refl _
  have hreleased : ((modOpen r.ex.key markStale s).modSlot r.ex.slot outstandingLowered).tracker.released =
      l₁ ++ markStale r :: l₂ := by
    show s.tracker.released.map _ = _
    rw [hl, map_split markStale hother]
  rw [recordsSound_iff] at hs htaken ⊢
  refine ⟨keysUnique_of_le hs.1 (fun k => sumSlots_modSlot_of_le (Nat.le_of_eq (keyDepth_of_queue (outstandingLowered_queue _) k)))
    (fun k => ?_), fun i => ?_⟩
  · rw [hreleased, hl, openKeys_split, openKeys_split]
    exact Nat.le_refl _
  · rw [hreleased]
    exact (htaken.2 i).withStale rfl

theorem recordsSound_orphan {r : OpenRecord} {k : ExchangeKey} (hs : RecordsSound s) (hr : r ∈ s.tracker.released)
    (hkey : r.ex.key = k) (hstale : r.state = .stale) : RecordsSound (freeOpen k s) := by
  subst hkey
  obtain ⟨l₁, l₂, hl, hother⟩ := released_split hs.1 hr
  refine recordsSound_take (r := r) hs hl ?_ fun i => ?_
  · show List.eraseP _ _ = _
    rw [hl, eraseP_split hother]
  · rw [if_neg fun h => h.2 hstale]
    exact Alike.refl _

theorem recordsSound_clear (hs : RecordsSound s) :
    RecordsSound { s.mapSlots (fun _ x => trafficSlot (withdrawnSlot x)) with tracker := { s.tracker with released := [] } } := by
  have hslot : ∀ i, (s.mapSlots fun _ x => trafficSlot (withdrawnSlot x)).slot i = trafficSlot (withdrawnSlot (s.slot i)) :=
    fun i => slot_mapSlots _ _ i
  refine recordsSound_empty rfl (fun i => ?_) (fun i => ?_) ?_
  · exact (congrArg Slot.queue (hslot i)).trans (trafficSlot_queue _)
  · refine (congrArg Slot.outstanding (hslot i)).trans ?_
    unfold trafficSlot
    dsimp only
    split <;> rfl
  · have hcommons : (s.slot 0).state.Open := hs.2.1
    have hkept : (trafficSlot (withdrawnSlot (s.slot 0))).state = (s.slot 0).state :=
      (trafficSlot_directory _).elim And.left fun h => absurd h.1 hcommons.2
    have hstate := (congrArg Slot.state (hslot 0)).trans hkept
    exact hstate.symm ▸ hcommons

theorem recordsSound_reset (hslots : s.slots = resetSlots) (hreleased : s.tracker.released = []) : RecordsSound s := by
  have hslot : ∀ i, s.slot i = { resetSlot with state := if i = 0 then .bound else .vacant } := fun i => by
    rw [← resetSlots_getElem, ← hslots]
    rfl
  refine recordsSound_empty hreleased (fun i => congrArg Slot.queue (hslot i)) (fun i => congrArg Slot.outstanding (hslot i)) ?_
  rw [hslot]
  exact ⟨nofun, nofun⟩

/-- Every move of a step that starts from sound records keeps them sound. -/
theorem Move.recordsSound (h : Move u s t) (hu : u) (hs : RecordsSound s) : RecordsSound t := by
  have hrecords := ((recordsSound_iff s).mp hs).2
  cases h with
  | applied v m x hpending halike hbalance hm hx => exact recordsSound_alike hs rfl halike
  | slots v halike hbalance => exact recordsSound_alike hs rfl halike
  | drained i hstate hzero =>
    have hi := hrecords i
    exact recordsSound_modSlot i _ hs (fun _ => (Nat.le_refl _)) ⟨hi.held, hi.current, hi.exact, fun _ => hzero,
      fun _ => hi.closed (.inr hstate), fun h0 => absurd hstate (hi.commons h0).2⟩
  | bound i a hi hvacant hmap => exact recordsSound_bind hs hi hvacant
  | unbound i hi hopen =>
    have hslot := hrecords i
    exact recordsSound_modSlot i _ hs (fun _ => Nat.zero_le _) ⟨nofun, hslot.current, hslot.exact, nofun, fun _ => rfl,
      fun h0 => absurd h0 hi⟩
  | admitted i f hslot hdraining hkey hroom =>
    exact recordsSound_admit hs ⟨hslot.elim id fun h0 => ((hrecords i).commons h0).1, hdraining⟩ hkey
  | aborted i k hheld =>
    have hi := hrecords i
    refine recordsSound_modSlot i _ hs (fun k' => List.Sublist.countP_le List.eraseP_sublist) ⟨fun h hh => ?_, hi.current,
      hi.exact, hi.vacant, fun hc => ?_, hi.commons⟩
    · exact hi.held h (List.mem_of_mem_eraseP hh)
    · show List.eraseP _ _ = []
      rw [hi.closed hc]
      rfl
  | released i h hhead hbound => exact recordsSound_release hs hhead hbound
  | noted k g hg => exact recordsSound_note hg hs
  | closed r code n hr => exact recordsSound_close code n hs hr
  | wentStale r hr hfresh =>
    rw [if_pos (generationTest_of_fresh hs (hr hu) hfresh)]
    exact recordsSound_turnStale hs (hr hu) hfresh
  | orphaned r hr =>
    obtain ⟨r', hr', hkey, hstale⟩ := hr hu
    exact recordsSound_orphan hs hr' hkey hstale
  | cleared => exact recordsSound_clear hs
  | held => exact recordsSound_reset rfl rfl
  | fullReset => exact recordsSound_reset rfl rfl
  | _ => exact hs

end Sys2Proof.Machine

/-! SUPPORT. Every shared operation of the model is a sequence of moves: each lemma extends a sequence by one operation. -/

namespace Sys2Proof.Machine

/-- Two contents of a slot that agree in each field the invariants read, but for the balance. -/
theorem Alike.same {x y : Slot} (state : y.state = x.state := by rfl) (address : y.address = x.address := by rfl)
    (gen : y.gen = x.gen := by rfl) (outstanding : y.outstanding = x.outstanding := by rfl)
    (exchanges : y.queue.map (·.ex) = x.queue.map (·.ex) := by rfl)
    (admitted : y.counters.admitted = x.counters.admitted := by rfl)
    (released : y.counters.released = x.counters.released := by rfl)
    (withdrawn : y.counters.withdrawn = x.counters.withdrawn := by rfl)
    (abortedHeld : y.counters.abortedHeld = x.counters.abortedHeld := by rfl) : Alike x y :=
  ⟨.inl state, address, gen, outstanding, exchanges, admitted, released, withdrawn, abortedHeld⟩

/-- A slot that changes from one open state to another. -/
theorem Alike.opened {x y : Slot} (hx : x.state.Open) (hy : y.state.Open) (address : y.address = x.address := by rfl)
    (gen : y.gen = x.gen := by rfl) (outstanding : y.outstanding = x.outstanding := by rfl)
    (exchanges : y.queue.map (·.ex) = x.queue.map (·.ex) := by rfl)
    (admitted : y.counters.admitted = x.counters.admitted := by rfl)
    (released : y.counters.released = x.counters.released := by rfl)
    (withdrawn : y.counters.withdrawn = x.counters.withdrawn := by rfl)
    (abortedHeld : y.counters.abortedHeld = x.counters.abortedHeld := by rfl) : Alike x y :=
  ⟨.inr ⟨hx, hy⟩, address, gen, outstanding, exchanges, admitted, released, withdrawn, abortedHeld⟩

theorem SlotState.Open.of_bound_or_suspended {x : SlotState} (h : x = .bound ∨ x = .suspended) : x.Open := by
  obtain rfl | rfl := h <;> exact ⟨nofun, nofun⟩

namespace Moves

variable {u : Prop} {s t : State}

/-! ### Single moves as extensions of a sequence -/

theorem move {v : State} (h : Moves u s t) (m : Move u t v) : Moves u s v := h.tail m

theorem aside (h : Moves u s t) {inReset : Bool} {originDiscards holdConsumed : Counter} {releaseSlot : Option Frame}
    {sorter : Sorter} {lostDone : LostDone} {sched : Scheduler} {doneAnomalies orphaned : Counter} {pace : PaceBank} :
    Moves u s
      { t with
        inReset := inReset, originDiscards := originDiscards, holdConsumed := holdConsumed, releaseSlot := releaseSlot
        sorter := sorter, lostDone := lostDone, sched := sched, pace := pace
        tracker := { t.tracker with doneAnomalies := doneAnomalies, orphaned := orphaned } } :=
  h.move (.aside ..)

theorem withLostDone (h : Moves u s t) (lostDone : LostDone) : Moves u s { t with lostDone := lostDone } := h.aside

theorem withSched (h : Moves u s t) (sched : Scheduler) : Moves u s { t with sched := sched } := h.aside

theorem agentKept (h : Moves u s t) {a : Agent} (hb : a.buffer.length ≤ t.agent.buffer.length := by exact Nat.le_refl _)
    (hm : a.managers.length ≤ t.agent.managers.length := by exact Nat.le_refl _) : Moves u s { t with agent := a } :=
  h.move (.agent a (Nat.le_trans hb) (Nat.le_trans hm))

theorem origin (h : Moves u s t) {q : List Frame} (hq : t.originQueue.length ≤ 64 → q.length ≤ 64) :
    Moves u s { t with originQueue := q } :=
  h.move (.origin q hq)

theorem pushOrigin (h : Moves u s t) (f : Frame) (hspace : originHasSpace t = true) : Moves u s (pushOrigin f t) := by
  have hlt : t.originQueue.length < 64 := of_decide_eq_true hspace
  exact h.origin (q := t.originQueue ++ [f]) fun _ => by
    rw [List.length_append, List.length_singleton]
    omega

theorem modPort (h : Moves u s t) (p : Port) (g : PortSide → PortSide)
    (hg : (t.port p).forwarded.length ≤ 128 → (g (t.port p)).forwarded.length ≤ 128) : Moves u s (t.modPort p g) := by
  cases p
  · exact h.move (.ports (g t.portF) t.portT hg id)
  · exact h.move (.ports t.portF (g t.portT) id hg)

theorem modSpool (h : Moves u s t) (g : Spool → Spool)
    (hg : SpoolBounded t → (g t.spool).entries.length ≤ capacityOf t.spoolSettings) : Moves u s (t.modSpool g) :=
  h.move (.spool (g t.spool) hg)

/-- A change of the spool that adds no entry. -/
theorem modSpool_of_le (h : Moves u s t) (g : Spool → Spool)
    (hg : (g t.spool).entries.length ≤ t.spool.entries.length := by exact Nat.le_refl _) : Moves u s (t.modSpool g) :=
  h.modSpool g fun hb => Nat.le_trans hg hb.1

theorem modMonitor (h : Moves u s t) (g : Monitor → Monitor)
    (hg : NamedProfileValid t → NamedProfileValid { t with monitor := g t.monitor }) : Moves u s (t.modMonitor g) :=
  h.move (.monitor (g t.monitor) hg)

/-- A change of the Monitor that keeps the tracker's state and the profile it names. -/
theorem modMonitor_of_same (h : Moves u s t) (g : Monitor → Monitor) (hstate : (g t.monitor).state = t.monitor.state := by rfl)
    (hselected : (g t.monitor).selected = t.monitor.selected := by rfl)
    (hforced : (g t.monitor).forced = t.monitor.forced := by rfl) : Moves u s (t.modMonitor g) := by
  refine h.modMonitor g fun hn => ?_
  unfold NamedProfileValid at hn ⊢
  simp only [hstate, hselected, hforced]
  exact hn

/-- A change of the Monitor after which the tracker names no profile. -/
theorem modMonitor_of_loose (h : Moves u s t) (g : Monitor → Monitor) (hlocked : (g t.monitor).state ≠ .locked := by exact nofun)
    (hforced : (g t.monitor).state ≠ .forced := by exact nofun) : Moves u s (t.modMonitor g) :=
  h.modMonitor g fun hn => ⟨fun e => absurd e hlocked, fun e => absurd e hforced, hn.2.2⟩

theorem modSlot (h : Moves u s t) (i : SlotId) (g : Slot → Slot) (halike : Alike (t.slot i) (g (t.slot i)) := by exact .same)
    (hbalance : -32768 ≤ (t.slot i).balance ∧ (t.slot i).balance ≤ ((t.slotPolicy i).cap : Int) →
      -32768 ≤ (g (t.slot i)).balance ∧ (g (t.slot i)).balance ≤ ((t.slotPolicy i).cap : Int) := by exact id) :
    Moves u s (t.modSlot i g) :=
  h.move (.slots (t.modSlot i g).slots
    (forall_slot_modSlot (Q := fun j => Alike (t.slot j)) i g (fun _ => Alike.refl _) halike)
    (fun hb => balancesBounded_modSlot i g hb (hbalance (hb i))))

theorem mapSlots (h : Moves u s t) (g : SlotId → Slot → Slot) (halike : ∀ i, Alike (t.slot i) (g i (t.slot i)) := by exact fun _ => .same)
    (hbalance : ∀ i, -32768 ≤ (t.slot i).balance ∧ (t.slot i).balance ≤ ((t.slotPolicy i).cap : Int) →
      -32768 ≤ (g i (t.slot i)).balance ∧ (g i (t.slot i)).balance ≤ ((t.slotPolicy i).cap : Int) := by exact fun _ => id) :
    Moves u s (t.mapSlots g) := by
  have hslot : ∀ i : SlotId, (t.mapSlots g).slots[i] = g i (t.slot i) := fun i => slot_mapSlots t g i
  exact h.move (.slots (t.mapSlots g).slots (fun i => by rw [hslot]; exact halike i)
    (fun hb i => by rw [hslot]; exact hbalance i (hb i)))

theorem ite {a b : State} {c : Prop} [Decidable c] (ha : c → Moves u s a) (hb : ¬c → Moves u s b) :
    Moves u s (if c then a else b) := by
  split
  · next hc => exact ha hc
  · next hc => exact hb hc

/-- A fold of operations that are each a sequence of moves. -/
theorem foldl {α : Type} {f : State → α → State} (hf : ∀ t a, Moves u s t → Moves u s (f t a)) (l : List α)
    (h : Moves u s t) : Moves u s (l.foldl f t) := by
  induction l generalizing t with
  | nil => exact h
  | cons a l ih => exact ih (hf t a h)

/-! ### Ports, origin queue, notices -/

theorem forward (h : Moves u s t) (p : Port) (f : Frame) : Moves u s (forward p f t) := by
  refine h.modPort p _ fun hlen => ?_
  split
  · next hlt =>
    have : (t.port p).forwarded.length < 128 := hlt
    simp only [List.length_append, List.length_singleton]
    omega
  · exact hlen

theorem placeDone (h : Moves u s t) (code : DoneCode) (f : Frame) : Moves u s (placeDone code f t) := by
  unfold Machine.placeDone
  split
  · next hspace => exact h.pushOrigin _ hspace
  · exact h.aside

theorem noticeOnRoute (h : Moves u s t) (r : NoticeRoute) (k : NoticeKind) : Moves u s (noticeOnRoute r k t) := by
  unfold Machine.noticeOnRoute
  split
  · exact h
  · split
    · split
      · next hspace => exact h.pushOrigin _ hspace
      · exact h.agentKept
    · exact h

theorem raiseNotice (h : Moves u s t) (k : NoticeKind) : Moves u s (raiseNotice k t) := by
  unfold Machine.raiseNotice
  split
  · exact h
  · dsimp only
    exact ((h.agentKept).noticeOnRoute _ k).noticeOnRoute _ k

/-! ### Usage Spool -/

theorem putEntries (h : Moves u s t) {es : List SpoolEntry} (hes : SpoolBounded t → es.length ≤ capacityOf t.spoolSettings) :
    Moves u s (putEntries es t) := by
  have hput := h.modSpool (fun x => { x with entries := es }) hes
  unfold Machine.putEntries
  dsimp only
  split
  · exact hput.raiseNotice _
  · exact hput

theorem freezeIfFull (h : Moves u s t) : Moves u s (freezeIfFull t) := by
  unfold Machine.freezeIfFull
  split
  · exact (h.modSpool_of_le _).raiseNotice _
  · exact h

theorem capacityOf_pos (hs : SpoolBounded t) : 1 ≤ capacityOf t.spoolSettings := by
  have hmark := of_decide_eq_true hs.2.1
  unfold capacityOf
  split
  · exact hmark.1
  · decide

theorem countDropped (h : Moves u s t) : Moves u s (countDropped t) := by
  unfold Machine.countDropped
  exact h.modSpool_of_le _

theorem offerRecord (h : Moves u s t) (e : SpoolEntry) : Moves u s (offerRecord e t).1 := by
  unfold Machine.offerRecord
  split
  · exact h
  · exact h.countDropped
  · split
    · next hlt =>
      refine (h.putEntries fun _ => ?_).freezeIfFull
      rw [List.length_append, List.length_singleton]
      exact hlt
    · exact h.countDropped.raiseNotice _
  · split
    · next hlt =>
      refine h.putEntries fun _ => ?_
      rw [List.length_append, List.length_singleton]
      exact hlt
    · refine h.putEntries fun hb => ?_
      have hpos := capacityOf_pos hb
      have hlen := hb.1
      rw [List.length_append, List.length_drop, List.length_singleton]
      omega

theorem offerTrigger (h : Moves u s t) (i : Option SlotId) (code : Nat) : Moves u s (offerTrigger i code t) := by
  unfold Machine.offerTrigger
  split
  · refine Moves.offerRecord (h.modSpool_of_le _ ?_) _
    dsimp only
    split
    · exact Nat.le_trans (Nat.le_of_eq (List.length_drop ..)) (Nat.sub_le _ _)
    · exact Nat.le_refl _
  · exact h.modSpool_of_le _

theorem offerEvent (h : Moves u s t) (k : EventKind) (i : Option SlotId) (v : BitVec 32) : Moves u s (offerEvent k i v t) := by
  unfold Machine.offerEvent
  dsimp only
  split
  · exact (h.offerRecord _).offerTrigger _ _
  · exact h.offerRecord _

theorem countBatch (h : Moves u s t) (i : SlotId) : Moves u s (countBatch i t) := by
  unfold Machine.countBatch
  split
  · split
    · exact (h.modSpool_of_le _).raiseNotice _
    · exact h.modSpool_of_le _
  · exact h

theorem offerSlotRecord (h : Moves u s t) (i : SlotId) : Moves u s (offerSlotRecord i t) := by
  unfold Machine.offerSlotRecord
  extract_lets x v full entry s₁ s₂
  have h₁ : Moves u s s₁ := h.modSlot i _
  have h₂ : Moves u s s₂ := h₁.offerRecord entry
  split
  · exact h₂.countBatch i
  · exact h₂.modSlot i _

theorem spoolSlotStep (h : Moves u s t) (i : SlotId) : Moves u s (spoolSlotStep t i) := by
  unfold Machine.spoolSlotStep
  split
  · exact h
  · split
    · split
      · exact (h.modSlot i _).offerSlotRecord i
      · exact h.modSlot i _
    · exact h

theorem spoolSummaryStep (h : Moves u s t) (c : ClosingSummary) : Moves u s (spoolSummaryStep c t).1 := by
  unfold Machine.spoolSummaryStep
  split
  · exact h
  · split
    · have hcount : Moves u s (t.modSpool fun x => { x with summaryCount := 0 }) := h.modSpool_of_le _
      exact hcount.offerRecord _
    · dsimp only
      exact h.modSpool_of_le _

theorem spoolMarkStep (h : Moves u s t) (written : Bool) : Moves u s (spoolMarkStep written t) := by
  unfold Machine.spoolMarkStep
  cases t.spoolSettings.markSpacing with
  | none => exact h.modSpool_of_le _
  | some d =>
    dsimp only
    refine .ite (fun _ => ?_) (fun _ => h.modSpool_of_le _)
    have hcount : Moves u s (t.modSpool fun x => { x with markCount := 0 }) := h.modSpool_of_le _
    exact hcount.offerRecord _

theorem spoolBoundaryStep (h : Moves u s t) (c : ClosingSummary) : Moves u s (spoolBoundaryStep c t) := by
  have hslots := Moves.foldl (f := Machine.spoolSlotStep) (fun _ i ht => ht.spoolSlotStep i) allSlots
    (h.spoolSummaryStep c)
  unfold Machine.spoolBoundaryStep
  exact hslots.spoolMarkStep _

theorem setFullNext (h : Moves u s t) : Moves u s (setFullNext t) := by
  unfold Machine.setFullNext
  refine h.mapSlots _ ?_ ?_
  · intro i
    dsimp only
    exact .same
  · intro i hb
    exact hb

/-! ### Directory -/

theorem quarantine (h : Moves u s t) (i : SlotId) (hopen : (t.slot i).state.Open) : Moves u s (quarantine i t) :=
  ((h.modSlot i _ (.opened hopen (by exact ⟨nofun, nofun⟩)) id).offerEvent _ _ _).raiseNotice _

theorem reportViolation (h : Moves u s t) (i : SlotId) : Moves u s (reportViolation i t) := by
  unfold Machine.reportViolation
  split
  · exact h
  · have hcounted := h.modSlot i (fun x => { x with violations := satAdd 255 x.violations 1 })
    dsimp only
    split
    · next hc =>
      refine hcounted.quarantine i ?_
      rw [slot_modSlot_self]
      exact .of_bound_or_suspended hc.1
    · exact hcounted

theorem completeDrain (h : Moves u s t) (i : SlotId) : Moves u s (completeDrain i t) := by
  unfold Machine.completeDrain
  split
  · next hd => exact h.move (.drained i hd.1 hd.2)
  · exact h

theorem idleMarkSlot_fields (limit : Nat) (x : Slot) :
    ∃ run flag, idleMarkSlot limit x = { x with admissionMark := false, idleRun := run, idleFlag := flag } := by
  unfold idleMarkSlot
  dsimp only
  split
  · split <;> exact ⟨_, _, rfl⟩
  · exact ⟨_, _, rfl⟩

theorem idleMarking (h : Moves u s t) : Moves u s (idleMarking t) := by
  refine h.mapSlots _ (fun i => ?_) fun i hb => ?_ <;>
    obtain ⟨run, flag, e⟩ := idleMarkSlot_fields t.part.idleLimit (t.slot i) <;> rw [e]
  · exact .same
  · exact hb

/-! ### Scheduler -/

theorem decideRelease (h : Moves u s t) : Moves u s (decideRelease t) := by
  obtain e | ⟨i, r, -, hchoice, hhead, e⟩ := decideRelease_cases t <;> rw [e]
  · exact h
  · exact h.move (.released i r hhead (slotEligible_bound t i (chooseHead_eligible t i hchoice)).1)

theorem burstLift (h : Moves u s t) (b : BurstReport) : Moves u s (burstLift b t) := by
  unfold Machine.burstLift
  split
  · exact (h.modSlot b.slot _ .same fun hb => raiseBalance_bounds _ hb.1).decideRelease
  · exact h

theorem reportOvercommit (h : Moves u s t) (n : Nat) : Moves u s (reportOvercommit n t) := by
  unfold Machine.reportOvercommit
  split
  · exact (h.offerEvent _ _ _).raiseNotice _
  · exact h

theorem payBalances (h : Moves u s t) : Moves u s (payBalances t) := by
  refine h.mapSlots _ (fun i => ?_) fun i hb => ?_ <;> split
  · exact .same
  · exact .refl _
  · exact raiseBalance_bounds _ hb.1
  · exact hb

theorem lowerLifts (h : Moves u s t) : Moves u s (lowerLifts t) := by
  unfold Machine.lowerLifts
  refine h.mapSlots _ (fun i => ?_) fun i hb => ?_
  · exact .same
  · exact hb

theorem refill (h : Moves u s t) : Moves u s (refill t) :=
  (h.payBalances.reportOvercommit _).lowerLifts

theorem map_ex_modHead {g : HeldRecord → HeldRecord} (hg : ∀ h, (g h).ex = h.ex) (q : List HeldRecord) :
    (modHead g q).map (·.ex) = q.map (·.ex) := by
  cases q with
  | nil => rfl
  | cons h q => simp [modHead, hg]

theorem promoteHead_ex (limit : Option Nat) (now : EpochNo) (h : HeldRecord) : (promoteHead limit now h).ex = h.ex := by
  unfold promoteHead
  split
  · rfl
  · split <;> rfl

theorem promoteHeads (h : Moves u s t) : Moves u s (promoteHeads t) :=
  h.mapSlots _ (fun _ => .same (exchanges := map_ex_modHead (promoteHead_ex _ _) _)) (fun _ => id)

theorem openEpoch (h : Moves u s t) (pie : Nat) : Moves u s (openEpoch pie t) :=
  (h.mapSlots (fun _ x => { x with releasedEpoch := 0 })).aside

theorem starveSlot (h : Moves u s t) (i : SlotId) : Moves u s (starveSlot t i) := by
  unfold Machine.starveSlot
  split
  · exact h
  · split
    · refine Moves.raiseNotice (h.modSlot i _ (.same (exchanges := ?_)) id) _
      exact map_ex_modHead (g := fun r => { r with starveNoted := true }) (fun _ => rfl) _
    · exact h

theorem starveCheck (h : Moves u s t) : Moves u s (starveCheck t) := Moves.foldl (fun _ i ht => ht.starveSlot i) _ h

theorem decideIfHoldEnded (h : Moves u s t) (before : State) : Moves u s (decideIfHoldEnded before t) := by
  unfold Machine.decideIfHoldEnded
  split
  · exact h.decideRelease
  · exact h

theorem takeHold (h : Moves u s t) (n : Nat) : Moves u s (takeHold n t) := (Moves.aside h).decideIfHoldEnded t

/-! ### Rate Monitor -/

theorem takeCompletion (h : Moves u s t) (n : Nat) (latency : Option Nat) : Moves u s (takeCompletion n latency t) := by
  by_cases hsilent : t.monitor.state = .silent
  · have e : silentExit (accumulate n latency t.monitor) = seekAfresh (accumulate n latency t.monitor) := if_pos hsilent
    refine h.modMonitor_of_loose _ ?_ ?_ <;> rw [e] <;> exact nofun
  · have e : silentExit (accumulate n latency t.monitor) = accumulate n latency t.monitor := if_neg hsilent
    refine h.modMonitor_of_same _ ?_ ?_ ?_ <;> rw [e] <;> rfl

theorem seekRun_same (fm : Option ProfileId) (m : Monitor) :
    (seekRun fm m).state = m.state ∧ (seekRun fm m).selected = m.selected ∧ (seekRun fm m).forced = m.forced := by
  unfold seekRun
  split <;> exact ⟨rfl, rfl, rfl⟩

/-- The candidate whose run reaches the lock count is an entry that the epoch matches, so a valid one. -/
theorem seekRun_candidate_valid {x : Measurement} (hlock : 1 ≤ t.trackerParams.lockCount)
    (hrun : t.trackerParams.lockCount ≤ (seekRun (firstMatch t x) t.monitor).run) :
    ∃ p, (seekRun (firstMatch t x) t.monitor).candidate = some p ∧ (activeProfile t p).valid = true := by
  cases hm : firstMatch t x with
  | none =>
    rw [hm] at hrun
    have : t.trackerParams.lockCount ≤ 0 := hrun
    omega
  | some p =>
    have hp := (matches_iff x (activeProfile t p)).mpr (List.find?_some (p := fun p => matchesProfile x (activeProfile t p)) hm)
    exact ⟨p, rfl, hp.1⟩

theorem seekStep (h : Moves u s t) (x : Measurement) : Moves u s (seekStep x t) := by
  obtain ⟨hstate, hselected, hforced⟩ := seekRun_same (firstMatch t x) t.monitor
  have hcounted := h.modMonitor_of_same (seekRun (firstMatch t x)) hstate hselected hforced
  unfold Machine.seekStep
  dsimp only
  split
  · next hrun =>
    refine Moves.raiseNotice (Moves.offerEvent (hcounted.modMonitor _ fun hn => ⟨fun _ => ?_, ?_, hn.2.2⟩) _ _ _) _
    · exact seekRun_candidate_valid hn.2.2.1 hrun
    · exact nofun
  · exact hcounted

theorem lockedStep (h : Moves u s t) (x : Measurement) : Moves u s (lockedStep x t) := by
  unfold Machine.lockedStep
  split
  · exact h.modMonitor_of_same _
  · split
    · exact ((h.modMonitor_of_loose _).offerEvent _ _ _).raiseNotice _
    · exact h.modMonitor_of_same _

theorem runStep (h : Moves u s t) (x : Measurement) : Moves u s (runStep x t) := by
  unfold Machine.runStep
  split
  · split
    · exact h.seekStep x
    · exact h.lockedStep x
    · exact h
    · exact h
  · exact h

theorem silentStep (h : Moves u s t) (x : Measurement) : Moves u s (silentStep x t) := by
  have hcounted := h.modMonitor_of_same (fun m => { m with silentRun := nextSilentRun x m.silentRun })
  unfold Machine.silentStep
  dsimp only
  split
  · exact ((hcounted.modMonitor_of_loose _).offerEvent _ _ _).raiseNotice _
  · exact hcounted

theorem closeEpoch (h : Moves u s t) (x : Measurement) : Moves u s (closeEpoch x t) :=
  ((Moves.runStep (Moves.aside h) x).silentStep x).modMonitor_of_same _

theorem cancelCalibration (h : Moves u s t) : Moves u s (cancelCalibration t) := by
  unfold Machine.cancelCalibration
  split
  · exact (h.modMonitor_of_same (fun m => { m with cal := { m.cal with status := .cancelled } })).aside
  · exact h

end Moves

end Sys2Proof.Machine

/-! SUPPORT. The apply of a commit and an epoch boundary are sequences of moves. -/

namespace Sys2Proof.Machine

/-! ### What an apply does to slots and spool -/

/-- From `s` to `t` the spool has gained no entry, each slot has changed in its spool fields alone, and nothing else has changed. -/
structure Respooled (s t : State) : Prop where
  rest : t = { s with slots := t.slots, spool := t.spool }
  slot : ∀ i, ∃ y, t.slot i = { s.slot i with spool := y }
  entries : t.spool.entries.length ≤ s.spool.entries.length

theorem Respooled.refl (s : State) : Respooled s s := ⟨rfl, fun i => ⟨(s.slot i).spool, rfl⟩, (Nat.le_refl _)⟩

theorem Respooled.trans {s t v : State} (h : Respooled s t) (h' : Respooled t v) : Respooled s v where
  rest := by rw [h'.rest, h.rest]
  slot i := by
    obtain ⟨y, hy⟩ := h.slot i
    obtain ⟨z, hz⟩ := h'.slot i
    exact ⟨z, by rw [hz, hy]⟩
  entries := Nat.le_trans h'.entries h.entries

theorem Respooled.modSpool (s : State) (g : Spool → Spool)
    (hg : (g s.spool).entries.length ≤ s.spool.entries.length) : Respooled s (s.modSpool g) :=
  ⟨rfl, fun i => ⟨(s.slot i).spool, rfl⟩, hg⟩

theorem Respooled.mapSlots (s : State) (g : SlotId → Slot → Slot)
    (hg : ∀ i, ∃ y, g i (s.slot i) = { s.slot i with spool := y }) : Respooled s (s.mapSlots g) :=
  ⟨rfl, fun i => by rw [slot_mapSlots]; exact hg i, (Nat.le_refl _)⟩

theorem respooled_setFullNext (s : State) : Respooled s (setFullNext s) := .mapSlots _ _ fun _ => ⟨_, rfl⟩

theorem respooled_applySpoolMode (old : SpoolSettings) (s : State) : Respooled s (applySpoolMode old s) := by
  unfold applySpoolMode
  split
  · exact .refl s
  · exact (Respooled.modSpool s _ (Nat.zero_le _)).trans (respooled_setFullNext _)

theorem respooled_applySpoolCompression (old : SpoolSettings) (s : State) : Respooled s (applySpoolCompression old s) := by
  unfold applySpoolCompression
  split
  · exact .refl s
  · exact respooled_setFullNext s

theorem respooled_applySpoolBatching (old : Image) (s : State) : Respooled s (applySpoolBatching old s) := by
  refine .mapSlots _ _ fun i => ?_
  split
  · exact ⟨(s.slot i).spool, rfl⟩
  · exact ⟨_, rfl⟩

/-- The spool's part of an apply before capacity and watermark are looked at. -/
def respool (old : Image) (s : State) : State :=
  applySpoolBatching old (applySpoolCounts old.spool (applySpoolCompression old.spool (applySpoolMode old.spool s)))

theorem respooled_respool (old : Image) (s : State) : Respooled s (respool old s) :=
  (respooled_applySpoolMode old.spool s).trans
    ((respooled_applySpoolCompression old.spool _).trans
      ((Respooled.modSpool (applySpoolCompression old.spool (applySpoolMode old.spool s)) _ (Nat.le_refl _)).trans
        (respooled_applySpoolBatching old _)))

/-- The oldest entries beyond the capacity are discarded. -/
def trimSpool (s : State) : State :=
  s.modSpool fun x => { x with entries := x.entries.drop (x.entries.length - capacityOf s.spoolSettings) }

theorem trimSpool_entries (s : State) : (trimSpool s).spool.entries.length ≤ capacityOf s.spoolSettings := by
  show (s.spool.entries.drop _).length ≤ _
  rw [List.length_drop]
  omega

theorem respooled_trimSpool (s : State) : Respooled s (trimSpool s) :=
  .modSpool s _ (Nat.le_trans (Nat.le_of_eq (List.length_drop ..)) (Nat.sub_le _ _))

/-! ### The Monitor's part -/

theorem applyMonitor_cases (m : Monitor) :
    (applyMonitor m = seekAfresh m) ∨ (applyMonitor m = m ∧ (m.state = .forced ∨ m.state = .silent)) := by
  unfold applyMonitor
  split
  · exact .inl rfl
  · exact .inl rfl
  · next e => exact .inr ⟨rfl, .inl e⟩
  · next e => exact .inr ⟨rfl, .inr e⟩

/-- The Monitor across an apply. -/
def appliedMonitor (s : State) : Monitor :=
  if monitorPolicyChanged s.policy.active s.policy.staged then applyMonitor s.monitor else s.monitor

theorem appliedMonitor_forced (s : State) (h : (appliedMonitor s).state = .forced) : appliedMonitor s = s.monitor := by
  unfold appliedMonitor at h ⊢
  split
  · next hc =>
    rw [if_pos hc] at h
    obtain e | ⟨e, -⟩ := applyMonitor_cases s.monitor
    · rw [e] at h; exact nomatch h
    · exact e
  · rfl

/-- A tracker that stays LOCKED across an apply does so under the same profile table. -/
theorem appliedMonitor_locked (s : State) (h : (appliedMonitor s).state = .locked) :
    appliedMonitor s = s.monitor ∧ s.policy.active.profiles = s.policy.staged.profiles := by
  unfold appliedMonitor at h ⊢
  by_cases hc : monitorPolicyChanged s.policy.active s.policy.staged = true
  · rw [if_pos hc] at h
    obtain e | ⟨e, hstate | hstate⟩ := applyMonitor_cases s.monitor <;> rw [e] at h
    · exact nomatch h
    · exact nomatch hstate.symm.trans h
    · exact nomatch hstate.symm.trans h
  · rw [if_neg hc]
    refine ⟨rfl, ?_⟩
    unfold monitorPolicyChanged at hc
    refine Classical.byContradiction fun hne => ?_
    exact hc (by simp [hne])

/-- A tracker that goes on or starts afresh at an apply names a profile that is valid in the new table. -/
theorem namedProfileValid_applied (s : State) (hpending : s.policy.commitPending = true) (hs : NamedProfileValid s) :
    NamedProfileValid { activateStaged s with monitor := appliedMonitor s } := by
  obtain ⟨hlocked, hforced, -, hstaged⟩ := hs
  refine ⟨fun e => ?_, fun e => ?_, hstaged, hstaged⟩
  · obtain ⟨hm, hprofiles⟩ := appliedMonitor_locked s e
    have e' : s.monitor.state = .locked := hm ▸ e
    obtain ⟨p, hp, hvalid⟩ := hlocked e'
    refine ⟨p, (congrArg Monitor.selected hm).trans hp, ?_⟩
    have : s.policy.staged.profiles[p].valid = true := hprofiles ▸ hvalid
    exact this
  · have hm := appliedMonitor_forced s e
    have e' : s.monitor.state = .forced := hm ▸ e
    obtain ⟨p, hp, hvalid, hboth⟩ := hforced e'
    exact ⟨p, (congrArg Monitor.forced hm).trans hp, hboth hpending, nofun⟩

/-! ### The apply -/

/-- An apply before the spool's part: the image, the Monitor's tracker, the clamp, the scan channel. -/
def applyBeforeSpool (s : State) : State :=
  { (clampBalances { activateStaged s with monitor := appliedMonitor s }) with
    pace := { s.pace with scan := applyScan s.policy.staged.pace s.pace.scan } }

theorem applyOwners_eq (s : State) :
    applyOwners s.policy.active (activateStaged s) = applySpool s.policy.active (applyBeforeSpool s) := by
  unfold applyOwners
  dsimp only
  congr 1
  by_cases hc : monitorPolicyChanged s.policy.active s.policy.staged = true
  · have hc' : monitorPolicyChanged s.policy.active (activateStaged s).policy.active = true := hc
    rw [if_pos hc']
    simp only [applyBeforeSpool, appliedMonitor, if_pos hc]
    rfl
  · have hc' : ¬ monitorPolicyChanged s.policy.active (activateStaged s).policy.active = true := hc
    rw [if_neg hc']
    simp only [applyBeforeSpool, appliedMonitor, if_neg hc]
    rfl

namespace Moves

variable {u : Prop} {s t v : State}

/-- The image, the owners' values and the spool in one move, the spool within its new capacity. -/
theorem respooled (h : Moves u s t) (hpending : t.policy.commitPending = true) (hv : Respooled (applyBeforeSpool t) v)
    (hcap : SpoolBounded t → v.spool.entries.length ≤ capacityOf t.policy.staged.spool) : Moves u s v := by
  have hslot : ∀ i : SlotId, ∃ y,
      v.slots[i] = { t.slot i with balance := min (t.slot i).balance (t.policy.staged.slots[i].cap : Int), spool := y } := by
    intro i
    obtain ⟨y, hy⟩ := hv.slot i
    refine ⟨y, hy.trans ?_⟩
    have e : (applyBeforeSpool t).slot i =
        { t.slot i with balance := min (t.slot i).balance (t.policy.staged.slots[i].cap : Int) } :=
      slot_mapSlots t (fun j x => { x with balance := min x.balance (t.policy.staged.slots[j].cap : Int) }) i
    rw [e]
  have happlied : Moves u s { activateStaged t with slots := v.slots, monitor := appliedMonitor t, spool := v.spool } := by
    refine h.move (.applied v.slots _ v.spool hpending (fun i => ?_) (fun hb i => ?_)
      (namedProfileValid_applied t hpending) hcap) <;> obtain ⟨y, hy⟩ := hslot i <;> rw [hy]
    · exact .same
    · have := hb i
      dsimp only
      omega
  rw [hv.rest]
  exact happlied.aside

theorem applySpoolWatermark (h : Moves u s t) (old : SpoolSettings) (n : Nat) : Moves u s (applySpoolWatermark old n t) := by
  unfold Machine.applySpoolWatermark
  split
  · exact h.raiseNotice _
  · exact h

theorem applyCommit (h : Moves u s t) (hpending : t.policy.commitPending = true) : Moves u s (applyCommit t) := by
  have hspool : Moves u s (applySpool t.policy.active (applyBeforeSpool t)) := by
    refine Moves.applySpoolWatermark ?_ _ _
    have hrespool := respooled_respool t.policy.active (applyBeforeSpool t)
    have hsettings : (respool t.policy.active (applyBeforeSpool t)).spoolSettings = t.policy.staged.spool := by
      rw [hrespool.rest]; rfl
    show Moves u s (Machine.applySpoolCapacity _ (respool t.policy.active (applyBeforeSpool t)))
    unfold Machine.applySpoolCapacity
    split
    · have htrim := trimSpool_entries (respool t.policy.active (applyBeforeSpool t))
      rw [hsettings] at htrim
      exact (h.respooled hpending (hrespool.trans (respooled_trimSpool _)) fun _ => htrim).freezeIfFull
    · next hcap =>
      rw [hsettings] at hcap
      exact h.respooled hpending hrespool fun hb => Nat.le_trans hrespool.entries (Nat.le_trans hb.1 (Nat.le_of_not_lt hcap))
  rw [← applyOwners_eq] at hspool
  exact (hspool.offerEvent _ _ _).raiseNotice _

theorem applyIfPending (h : Moves u s t) : Moves u s (applyIfPending t) := by
  unfold Machine.applyIfPending
  split
  · next hpending => exact h.applyCommit hpending
  · exact h

/-! ### Boundaries -/

/-- A change of the Pace Bank. -/
theorem modPace (h : Moves u s t) (g : PaceBank → PaceBank) : Moves u s (t.modPace g) := by
  unfold State.modPace
  exact h.aside

theorem reloadMeters (h : Moves u s t) : Moves u s (reloadMeters t) := h.modPace _

theorem openBoundary (h : Moves u s t) : Moves u s (openBoundary t) :=
  (h.modPace _).applyIfPending.reloadMeters.modPace _

theorem spoolAt (h : Moves u s t) (here turn : SpoolTurn) (c : ClosingSummary) : Moves u s (spoolAt here turn c t) := by
  unfold Machine.spoolAt
  split
  · exact h.spoolBoundaryStep c
  · exact h

theorem payOpened (h : Moves u s t) (pie : Nat) : Moves u s (payOpened pie t) := (h.openEpoch pie).refill.promoteHeads

theorem schedulerBoundary (h : Moves u s t) (turn : SpoolTurn) (closing : EpochNo) (pie : Nat) :
    Moves u s (schedulerBoundary turn closing pie t) :=
  ((((((h.closeEpoch _).spoolAt _ _ _).payOpened _).spoolAt _ _ _).decideRelease).spoolAt _ _ _)

theorem openEarly (h : Moves u s t) : Moves u s (openEarly t) := by
  unfold Machine.openEarly
  exact (h.openBoundary.payOpened _).decideRelease.modPace _

theorem closeOpened (h : Moves u s t) (r : ClosingReport) : Moves u s (closeOpened r t) := by
  unfold Machine.closeOpened
  exact ((h.modPace _).closeEpoch _).spoolBoundaryStep _

theorem epochBoundary (h : Moves u s t) (turn : SpoolTurn) : Moves u s (epochBoundary turn t) := by
  unfold Machine.epochBoundary
  split
  · exact h
  · split
    · exact h.closeOpened _
    · exact h.openBoundary.schedulerBoundary _ _ _

/-! ### Expiries -/

theorem completeCalibration (h : Moves u s t) : Moves u s (completeCalibration t) := by
  unfold Machine.completeCalibration
  have hstatus := h.modMonitor_of_same fun m => { m with cal := { m.cal with status := .complete } }
  exact (hstatus.offerEvent _ _ _).raiseNotice _

theorem takeWaitingExpiry (h : Moves u s t) : Moves u s (takeWaitingExpiry t) := by
  have hdue := h.modPace fun b => { b with cal := { b.cal with due := false } }
  unfold Machine.takeWaitingExpiry Machine.takeCompletionOfCal
  split
  · exact hdue.completeCalibration
  · exact hdue

theorem takeCalExpiry (h : Moves u s t) : Moves u s (takeCalExpiry t) := by
  unfold Machine.takeCalExpiry
  split
  · exact h
  · split
    · exact h.takeWaitingExpiry
    · split
      · exact h.openEarly.takeWaitingExpiry
      · exact h

theorem dropDue (h : Moves u s t) (m : Meter) : Moves u s (dropDue m t) := by
  unfold Machine.dropDue
  split <;> exact h.modPace _

theorem takeMeterExpiry (h : Moves u s t) (m : Meter) : Moves u s (takeMeterExpiry m t) := by
  unfold Machine.takeMeterExpiry
  split
  · exact h
  · split
    · exact h
    · exact ((h.dropDue m).burstLift _).offerEvent _ _ _

theorem takeHoldExpiry (h : Moves u s t) : Moves u s (takeHoldExpiry t) := by
  unfold Machine.takeHoldExpiry
  split
  · exact (Moves.aside h).decideIfHoldEnded t
  · exact h

end Moves

end Sys2Proof.Machine

/-! SUPPORT. A scan pass, the frames and the links are sequences of moves. -/

namespace Sys2Proof.Machine

/-! ### Lookups -/

theorem mem_of_findHeld {k : ExchangeKey} {q : List HeldRecord} {h : HeldRecord} (hf : findHeld k q = some h) : h ∈ q :=
  List.mem_of_find?_eq_some hf

theorem mem_of_openRecord {s : State} {k : ExchangeKey} {r : OpenRecord} (hr : openRecord s k = some r) :
    r ∈ s.tracker.released :=
  List.mem_of_find?_eq_some hr

/-- The slot an admission looks up is one that is taken, or the commons (R20, R22). -/
theorem slotFor_open {s : State} {a : FabAddr} {i : SlotId} (h : slotFor s a = some i) :
    (s.slot i).state ≠ .vacant ∨ i = 0 := by
  unfold slotFor at h
  split at h
  · next j hj =>
    have hfound := List.find?_some hj
    simp only [Bool.and_eq_true, decide_eq_true_eq] at hfound
    obtain ⟨⟨-, hstate⟩, -⟩ := hfound
    exact .inl (Option.some.inj h ▸ hstate)
  · split at h
    · exact .inr (Option.some.inj h).symm
    · exact nomatch h

/-- What a sort names: a held record of the slot's queue, or a released record. -/
def Disposition.Found (s : State) : Disposition → Prop
  | .held i h => h ∈ (s.slot i).queue
  | .released r => r ∈ s.tracker.released
  | _ => True

theorem lookupRecord_found (s : State) (k : ExchangeKey) : (lookupRecord s k).Found s := by
  unfold lookupRecord
  split
  · split
    · next h hh => exact mem_of_findHeld hh
    · trivial
  · split
    · next r hr => exact mem_of_openRecord hr
    · trivial

theorem classify_found (p : Port) (f : Frame) (s : State) : (classify p f s).Found s := by
  have hlookup := lookupRecord_found s
  unfold classify classifyTransport
  repeat' split
  all_goals first | trivial | exact hlookup _

namespace Moves

variable {u : Prop} {s t : State}

/-! ### The Tracker's walk -/

theorem turnStale (h : Moves u s t) (r : OpenRecord) (hr : u → r ∈ t.tracker.released) (hfresh : r.state ≠ .stale) :
    Moves u s (turnStale r t) := by
  unfold Machine.turnStale
  exact (h.move (.wentStale r hr hfresh)).offerEvent _ _ _

theorem released_turnStale (r : OpenRecord) (s : State) :
    (Machine.turnStale r s).tracker.released = (modOpen r.ex.key markStale s).tracker.released := by
  unfold Machine.turnStale
  rw [offerEvent_touches]
  dsimp only
  split
  · rw [decrementOutstanding_touches]
  · rfl

theorem mem_modOpen_of_ne {q : OpenRecord} {k : ExchangeKey} (g : OpenRecord → OpenRecord) (hq : q ∈ t.tracker.released)
    (hne : q.ex.key ≠ k) : q ∈ (modOpen k g t).tracker.released :=
  List.mem_map.mpr ⟨q, hq, if_neg hne⟩

theorem mem_modOpen_self {r : OpenRecord} (g : OpenRecord → OpenRecord) (hr : r ∈ t.tracker.released) :
    g r ∈ (modOpen r.ex.key g t).tracker.released :=
  List.mem_map.mpr ⟨r, hr, if_pos rfl⟩

theorem mem_freeOpen_of_ne {q : OpenRecord} {k : ExchangeKey} (hq : q ∈ t.tracker.released) (hne : q.ex.key ≠ k) :
    q ∈ (freeOpen k t).tracker.released :=
  (List.mem_eraseP_of_neg (by simpa using hne)).mpr hq

theorem orphanRecord (h : Moves u s t) (r : OpenRecord)
    (hr : u → ∃ r' ∈ t.tracker.released, r'.ex.key = r.ex.key ∧ r'.state = .stale) : Moves u s (orphanRecord r t) := by
  have hcounted : Moves u s { t with tracker := { t.tracker with orphaned := t.tracker.orphaned + 1 } } := h.aside
  unfold Machine.orphanRecord
  exact hcounted.move (.orphaned r hr)

theorem walkRecord (h : Moves u s t) (r : OpenRecord) (hr : u → r ∈ t.tracker.released) : Moves u s (walkRecord t r) := by
  unfold Machine.walkRecord
  by_cases hturn : turnsStale t r = true
  · have hfresh : r.state ≠ .stale := by
      have := (Bool.and_eq_true _ _ ▸ hturn).1
      exact of_decide_eq_true this
    have hstale := h.turnStale r hr hfresh
    rw [if_pos hturn]
    refine .ite (fun _ => hstale.orphanRecord r fun hu => ?_) fun _ => hstale
    rw [released_turnStale]
    exact ⟨markStale r, mem_modOpen_self _ (hr hu), rfl, rfl⟩
  · rw [if_neg hturn]
    refine .ite (fun horphan => h.orphanRecord r fun hu => ⟨r, hr hu, rfl, ?_⟩) fun _ => h
    have := (Bool.and_eq_true _ _ ▸ horphan).1
    simpa [hturn] using this

/-- The walk's visit to a record leaves every record of another key where it is. -/
theorem mem_walkRecord_of_ne {q r : OpenRecord} (hq : q ∈ t.tracker.released) (hne : q.ex.key ≠ r.ex.key) :
    q ∈ (Machine.walkRecord t r).tracker.released := by
  have hmarked : q ∈ (if turnsStale t r then Machine.turnStale r t else t).tracker.released := by
    split
    · rw [released_turnStale]; exact mem_modOpen_of_ne _ hq hne
    · exact hq
  unfold Machine.walkRecord
  dsimp only
  split
  · exact mem_freeOpen_of_ne (t := { (if turnsStale t r then Machine.turnStale r t else t) with tracker := _ }) hmarked hne
  · exact hmarked

theorem walk (l : List OpenRecord) (h : Moves u s t) (hmem : u → ∀ r ∈ l, r ∈ t.tracker.released)
    (hkeys : u → (l.map fun r => r.ex.key).Nodup) : Moves u s (l.foldl Machine.walkRecord t) := by
  induction l generalizing t with
  | nil => exact h
  | cons r l ih =>
    refine ih (h.walkRecord r fun hu => hmem hu r List.mem_cons_self) (fun hu q hq => ?_) fun hu =>
      (List.nodup_cons.mp (hkeys hu)).2
    refine mem_walkRecord_of_ne (hmem hu q (List.mem_cons_of_mem _ hq)) fun e => ?_
    exact (List.nodup_cons.mp (hkeys hu)).1 (List.mem_map.mpr ⟨q, hq, e⟩)

theorem staleWalk (h : Moves u s t) (hsound : u → RecordsSound t) : Moves u s (staleWalk t) :=
  walk t.tracker.released h (fun _ _ hr => hr) fun hu => (List.nodup_append.mp (hsound hu).1).2.1

/-! ### The scan pass -/

theorem idleAt (h : Moves u s t) (here place : ScanPlace) : Moves u s (idleAt here place t) := by
  unfold Machine.idleAt
  split
  · exact h.idleMarking
  · exact h

theorem starveAt (h : Moves u s t) (here place : ScanPlace) : Moves u s (starveAt here place t) := by
  unfold Machine.starveAt
  split
  · exact h.starveCheck
  · exact h

theorem recordsSound (h : Moves u s t) (hsound : u → RecordsSound s) (hu : u) : RecordsSound t :=
  h.keep (fun _ _ hm => hm.recordsSound hu) (hsound hu)

theorem deliverPass (h : Moves u s t) (hsound : u → RecordsSound s) (idle starve : ScanPlace) :
    Moves u s (deliverPass idle starve t) := by
  have hfirst := (h.idleAt .beforeWalk idle).starveAt .beforeWalk starve
  have hwalk := ((hfirst.staleWalk (hfirst.recordsSound hsound)).idleAt .afterWalk idle).starveAt .afterWalk starve
  unfold Machine.deliverPass
  dsimp only
  refine Moves.starveAt (Moves.idleAt ?_ _ _) _ _
  split
  · exact hwalk.decideRelease
  · exact hwalk

theorem scanPass (h : Moves u s t) (hsound : u → RecordsSound s) (idle starve : ScanPlace) :
    Moves u s (scanPass idle starve t) := by
  unfold Machine.scanPass
  split
  · exact h
  · exact (h.modPace _).deliverPass hsound idle starve

theorem stopScan (h : Moves u s t) : Moves u s (stopScan t) := by
  unfold Machine.stopScan
  split
  · exact h
  · split
    · exact h.modPace _
    · exact h

/-! ### Admission -/

theorem countSlot (h : Moves u s t) (i : SlotId) (g : SlotCounters → SlotCounters)
    (hadmitted : (g (t.slot i).counters).admitted = (t.slot i).counters.admitted := by rfl)
    (hreleased : (g (t.slot i).counters).released = (t.slot i).counters.released := by rfl)
    (hwithdrawn : (g (t.slot i).counters).withdrawn = (t.slot i).counters.withdrawn := by rfl)
    (habortedHeld : (g (t.slot i).counters).abortedHeld = (t.slot i).counters.abortedHeld := by rfl) :
    Moves u s (t.countSlot i g) := by
  unfold State.countSlot
  refine h.modSlot i _ ?_ id
  exact .same (admitted := hadmitted) (released := hreleased) (withdrawn := hwithdrawn) (abortedHeld := habortedHeld)

theorem turnAway (h : Moves u s t) (order : TurnAwayOrder) (code : DoneCode) (cmd : Frame) :
    Moves u s (turnAway order code cmd t) := by
  cases order
  · exact (h.placeDone code cmd).raiseNotice _
  · exact (h.raiseNotice _).placeDone code cmd

theorem turnAwayFrom (h : Moves u s t) (order : TurnAwayOrder) (i : SlotId) (code : DoneCode) (cmd : Frame) :
    Moves u s (turnAwayFrom order i code cmd t) := by
  unfold Machine.turnAwayFrom
  have hcounted := h.countSlot i fun c => { c with turnedAway := c.turnedAway + 1 }
  exact hcounted.turnAway order code cmd

theorem tallyAdmission (h : Moves u s t) (i : SlotId) : Moves u s (tallyAdmission i t) := by
  unfold Machine.tallyAdmission
  exact h.aside

theorem liveCount_lt_of_poolRefuses {i : SlotId} (h : ¬ poolRefuses t i = true) : liveCount t < 1024 := by
  have hfree : freeCount t ≠ 0 := fun e => h (by simp [poolRefuses, e])
  have hpool : freeCount t = 1024 - liveCount t := rfl
  omega

theorem admissionChecks (h : Moves u s t) (order : TurnAwayOrder) {i : SlotId} (cmd : Frame)
    (hslot : (t.slot i).state ≠ .vacant ∨ i = 0) : Moves u s (admissionChecks order i cmd t) := by
  unfold Machine.admissionChecks
  refine .ite (fun _ => h.turnAwayFrom ..) fun _ => .ite (fun _ => h.turnAwayFrom ..) fun hdraining =>
    .ite (fun _ => h.reportViolation i) fun hkey => .ite (fun _ => h.turnAwayFrom ..) fun _ =>
      .ite (fun _ => h.turnAwayFrom ..) fun hpool => ?_
  have hadmitted := h.move (.admitted i cmd hslot hdraining (by simpa using hkey) (liveCount_lt_of_poolRefuses hpool))
  exact (hadmitted.tallyAdmission i).decideRelease

theorem takeCommand (h : Moves u s t) (order : TurnAwayOrder) (cmd : Frame) : Moves u s (takeCommand order cmd t) := by
  unfold Machine.takeCommand
  split
  · exact h.turnAway ..
  · next i hi => exact h.admissionChecks order cmd (slotFor_open hi)

/-! ### Matched frames -/

theorem abortHeld (h : Moves u s t) {i : SlotId} {r : HeldRecord} (hr : r ∈ (t.slot i).queue) :
    Moves u s (abortHeld i r t) := by
  have haborted := (h.move (.aborted i r.ex.key ⟨r, hr, rfl⟩)).placeDone .aborted r.frame
  unfold Machine.abortHeld
  dsimp only
  split
  · exact haborted.decideRelease
  · exact haborted

theorem countAnomaly (h : Moves u s t) : Moves u s (countAnomaly t) := by
  unfold Machine.countAnomaly
  exact h.aside

theorem takeHeldMatch (h : Moves u s t) (p : Port) (f : Frame) {i : SlotId} {r : HeldRecord} (hr : r ∈ (t.slot i).queue) :
    Moves u s (takeHeldMatch p f i r t) := by
  unfold Machine.takeHeldMatch
  exact .ite (fun _ => h.abortHeld hr) fun _ => .ite (fun _ => h.countAnomaly.forward _ _) fun _ => h.forward _ _

theorem openAlike_takeReady (n : Nat) (r : OpenRecord) : OpenAlike r (takeReady n r) := by
  unfold takeReady
  split <;> exact ⟨rfl, rfl, rfl, Iff.rfl⟩

theorem openAlike_takeData (n : Nat) (r : OpenRecord) : OpenAlike r (takeData n r) := ⟨rfl, rfl, rfl, Iff.rfl⟩

theorem openAlike_takeAbort (r : OpenRecord) : OpenAlike r (takeAbort r) := by
  unfold takeAbort
  split
  · next e => exact ⟨rfl, rfl, rfl, by simp [e]⟩
  · exact ⟨rfl, rfl, rfl, Iff.rfl⟩

theorem trackData (h : Moves u s t) (p : Port) (f : Frame) (r : OpenRecord) : Moves u s (trackData p f r t) := by
  have hnoted := h.move (.noted r.ex.key _ (openAlike_takeData (dataSectors f)))
  unfold Machine.trackData
  dsimp only
  split
  · exact hnoted.reportViolation _
  · exact hnoted

theorem freeOpen_takeCompletion (k : ExchangeKey) (n : Nat) (latency : Option Nat) (s : State) :
    freeOpen k (Machine.takeCompletion n latency s) = Machine.takeCompletion n latency (freeOpen k s) := rfl

/-- A close's settlement and freeing: counted to the slot under the generation test, otherwise with the refund discarded. -/
theorem settleAndFree (h : Moves u s t) {r : OpenRecord} (code n : Nat) (hr : r ∈ t.tracker.released) :
    Moves u s (freeOpen r.ex.key (if generationTest t r.ex then settleSlot r code n t else discardRefund t)) := by
  have hclosed := h.move (.closed r code n hr)
  split
  · next hgen =>
    rw [if_pos hgen] at hclosed
    exact hclosed
  · next hgen =>
    rw [if_neg hgen] at hclosed
    exact hclosed.aside

theorem closeRecord (h : Moves u s t) {r : OpenRecord} (code n : Nat) (hr : r ∈ t.tracker.released) :
    Moves u s (closeRecord r code n t) := by
  have hclosed := (h.settleAndFree code n hr).takeCompletion n (closeLatency t.pace.time r)
  rw [← freeOpen_takeCompletion] at hclosed
  unfold Machine.closeRecord
  dsimp only
  split
  · exact hclosed.decideRelease
  · exact hclosed

theorem trackFrame (h : Moves u s t) (p : Port) (f : Frame) {r : OpenRecord} (hr : r ∈ t.tracker.released) :
    Moves u s (trackFrame p f r t) := by
  unfold Machine.trackFrame
  split
  · exact h.move (.noted _ _ (openAlike_takeReady _))
  · exact h.trackData p f r
  · exact h.closeRecord _ _ hr
  · exact h.move (.noted _ _ openAlike_takeAbort)
  · exact h

/-! ### Reception -/

theorem bufferRequest (h : Moves u s t) (f : Frame) : Moves u s (bufferRequest f t) := by
  unfold Machine.bufferRequest
  refine .ite (fun _ => h.agentKept) fun _ => .ite (fun _ => h.agentKept) fun hfull => ?_
  refine h.move (.agent _ (fun _ => ?_) id)
  rw [List.length_append, List.length_singleton]
  omega

theorem consumeHold (h : Moves u s t) (f : Frame) : Moves u s (consumeHold f t) := by
  have hcounted : Moves u s { t with holdConsumed := t.holdConsumed + 1 } := h.aside
  unfold Machine.consumeHold
  exact hcounted.takeHold _

theorem modSorter (h : Moves u s t) (g : Sorter → Sorter) : Moves u s (t.modSorter g) := by
  unfold State.modSorter
  exact h.aside

theorem dispose (h : Moves u s t) (order : TurnAwayOrder) {d : Disposition} (p : Port) (f : Frame) (hd : d.Found t) :
    Moves u s (dispose order d p f t) := by
  cases d with
  | pass => exact h.forward _ _
  | malformed => exact (h.modSorter _).forward _ _
  | unscheduled => exact (h.modSorter _).forward _ _
  | unmatched => exact (h.modSorter _).forward _ _
  | misported => exact (h.modSorter _).forward _ _
  | admission => exact h.takeCommand order f
  | held i r => exact h.takeHeldMatch p f hd
  | released r => exact (h.trackFrame p f hd).forward _ _
  | hold => exact h.consumeHold f
  | request => exact h.bufferRequest f

theorem found_countReceived {d : Disposition} (p : Port) (hd : d.Found t) : d.Found (countReceived p t) := by
  cases d with
  | held i r =>
    have hr : r ∈ ((countReceived p t).slot i).queue := by rw [countReceived_slot]; exact hd
    exact hr
  | released r =>
    have hr : r ∈ (countReceived p t).tracker.released := by rw [countReceived_tracker]; exact hd
    exact hr
  | _ => trivial

theorem receive (h : Moves u s t) (order : TurnAwayOrder) (p : Port) (f : Frame) : Moves u s (receive order p f t) := by
  unfold Machine.receive
  split
  · exact h
  · have hcounted : Moves u s (countReceived p t) := h.modPort p _ id
    exact hcounted.dispose order p f (found_countReceived p (classify_found p f t))

theorem receiveBad (h : Moves u s t) (p : Port) : Moves u s (receiveBad p t) := by
  unfold Machine.receiveBad
  split
  · exact h
  · exact h.modPort p _ id

/-! ### Links and egress -/

theorem countDiscard (h : Moves u s t) (p : Port) (src : EgressSource) : Moves u s (countDiscard p src t) := by
  have hcounted := h.modPort p (fun x => { x with egressDiscards := x.egressDiscards + 1 }) id
  unfold Machine.countDiscard
  dsimp only
  split
  · exact hcounted.aside
  · exact hcounted

theorem setLink (h : Moves u s t) (p : Port) (l : LinkState) : Moves u s (setLink p l t) := h.modPort p _ id

theorem loseTransmission (h : Moves u s t) (p : Port) : Moves u s (loseTransmission p t) := by
  unfold Machine.loseTransmission
  split
  · exact h
  · have hfreed : Moves u s (freeTransmitter p t) := h.modPort p _ id
    exact hfreed.countDiscard p _

theorem raiseLink (h : Moves u s t) (p : Port) : Moves u s (raiseLink p t) := by
  unfold Machine.raiseLink
  exact .ite (fun _ => h) fun _ => .ite (fun _ => (h.setLink _ _).decideRelease) fun _ => h.setLink _ _

theorem lowerLink (h : Moves u s t) (p : Port) : Moves u s (lowerLink p t) := by
  unfold Machine.lowerLink
  exact .ite (fun _ => h) fun _ => (h.setLink _ _).loseTransmission p

theorem removeTaken (h : Moves u s t) (p : Port) (src : EgressSource) : Moves u s (removeTaken p src t) := by
  unfold Machine.removeTaken
  split
  · refine h.modPort p _ fun hlen => ?_
    rw [List.length_tail]
    omega
  · split
    · refine h.origin fun hlen => ?_
      rw [List.length_tail]
      omega
    · exact h.aside

theorem sendOrDiscard (h : Moves u s t) (p : Port) (f : Frame) (src : EgressSource) :
    Moves u s (sendOrDiscard p f src t) := by
  unfold Machine.sendOrDiscard
  exact .ite (fun _ => h.modPort p _ id) fun _ => h.countDiscard p src

theorem takeNext (h : Moves u s t) (p : Port) : Moves u s (takeNext p t) := by
  unfold Machine.takeNext
  refine .ite (fun _ => h) fun _ => ?_
  split
  · exact h
  · next f src _ =>
    have hsent := ((h.removeTaken p src).modPort p (fun x => { x with turn := turnAfter src }) id).sendOrDiscard p f src
    unfold Machine.afterTake
    exact .ite (fun _ => hsent.decideRelease) fun _ => hsent

theorem endTransmission (h : Moves u s t) (p : Port) : Moves u s (endTransmission p t) := by
  unfold Machine.endTransmission
  refine .ite (fun _ => h) fun _ => ?_
  split
  · exact h
  · exact h.modPort p _ id

/-- The end of reset: the links and the address are sampled, the two channels started. -/
theorem endReset (h : Moves u s t) (straps : BitVec 4) (linkF linkT : Bool) : Moves u s (endReset straps linkF linkT t) := by
  unfold Machine.endReset
  split
  · have hports : Moves u s
        { t with portF := { t.portF with link := linkOf linkF }, portT := { t.portT with link := linkOf linkT } } :=
      h.move (.ports _ _ id id)
    have hagent := hports.agentKept (a := { t.agent with address := strapAddress straps })
    exact hagent.aside
  · exact h

end Moves

end Sys2Proof.Machine

/-! SUPPORT. A STAGE request that passes its field tests leaves the staged image in range (R150). -/

namespace Sys2Proof.Machine

/-! ### Field tests -/

/-- No field is bad exactly when every test is passed. -/
theorem firstBad_eq_none_iff (l : List (Nat × Bool)) : firstBad l = none ↔ ∀ x ∈ l, x.2 = true := by
  induction l with
  | nil => simp [firstBad]
  | cons x l ih =>
    obtain ⟨i, ok⟩ := x
    cases ok <;> simp [firstBad, ih]

theorem beNat_one_lt (b : List Byte) (i : Nat) : beNat b i 1 < 256 := by
  have h := (b.getD (i + 0) 0#8).isLt
  simp only [beNat]
  omega

theorem beNat_four_lt (b : List Byte) (i : Nat) : beNat b i 4 < 4294967296 := by
  have h0 := (b.getD (i + 0) 0#8).isLt
  have h1 := (b.getD (i + 1) 0#8).isLt
  have h2 := (b.getD (i + 2) 0#8).isLt
  have h3 := (b.getD (i + 3) 0#8).isLt
  simp only [beNat]
  omega

theorem byteAt_lt (b : List Byte) (i : Nat) : byteAt b i < 256 := beNat_one_lt b i

theorem beNat_one_eq (b : List Byte) (i : Nat) : beNat b i 1 = byteAt b i := rfl

/-! ### Groups -/

/-- An optional field that passes its tests is absent or in range. -/
theorem optWithin_optField {flag v lo hi : Nat} (hflag : flag ≤ 1) (hv : flag ≠ 1 ∨ lo ≤ v ∧ v ≤ hi) :
    optWithin lo hi (optField flag v) = true := by
  unfold optField
  split
  · rfl
  · have : flag = 1 := by omega
    simpa [optWithin, within, this] using hv

/-- A one-byte field that may be off is off or in range. -/
theorem optWithin_offField {v lo hi : Nat} (hv : (lo ≤ v ∧ v ≤ hi) ∨ v = 0xFF) : optWithin lo hi (offField v) = true := by
  unfold offField
  split
  · rfl
  · next hne => simpa [optWithin, within, hne] using hv

theorem slotPolicyInRange_readSlotPolicy {b : List Byte} (h : firstBad (slotTests b) = none) :
    slotPolicyInRange (readSlotPolicy b) = true := by
  rw [firstBad_eq_none_iff] at h
  simp only [slotTests, optTests, rangeTest, offTest, inRange, List.cons_append, List.nil_append,
    List.forall_mem_cons, decide_eq_true_eq, Bool.or_eq_true] at h
  simp only [beNat_one_eq] at h
  obtain ⟨-, hweight, hfloor, hcap, hflag, hceiling, hdebt, hhold, hconcurrency, hbatching, -⟩ := h
  have hceiling' := optWithin_optField (lo := 1) (hi := 65535) hflag.2 hceiling
  have hbatching' := optWithin_offField (lo := 0) (hi := 15) hbatching
  simp [slotPolicyInRange, readSlotPolicy, within, hceiling', hbatching', hweight, hfloor, hcap, hdebt, hhold, hconcurrency]

theorem partInRange_readPart {b : List Byte} (h : firstBad (partTests b) = none) : partInRange (readPart b) = true := by
  have hlt := beNat_two_lt b 7
  rw [firstBad_eq_none_iff] at h
  simp only [partTests, optTests, rangeTest, inRange, List.cons_append, List.nil_append,
    List.forall_mem_cons, decide_eq_true_eq, Bool.or_eq_true, Bool.and_eq_true] at h
  simp only [beNat_one_eq] at h
  obtain ⟨hreserve, -, -, -, htype, hviolation, hstale, horphan, hstarve, hidle, -⟩ := h
  have hnat : (BitVec.ofNat 16 (beNat b 7 2)).toNat = beNat b 7 2 := by
    rw [BitVec.toNat_ofNat, Nat.mod_eq_of_lt hlt]
  have hne : BitVec.ofNat 16 (beNat b 7 2) ≠ 0x8100#16 := fun e => htype.2 (by rw [← hnat, e]; rfl)
  simp [partInRange, readPart, within, hreserve, hviolation, hstale, horphan, hstarve, hidle, hnat, hne, htype.1]

theorem costEntryInRange_readCostEntry {b : List Byte} {i : Nat} (hlow : 1 ≤ byteAt b i) (hhigh : byteAt b i ≤ 64) :
    costEntryInRange (readCostEntry b i) = true := by
  have hlt := byteAt_lt b (i + 1)
  simp [costEntryInRange, readCostEntry, within, hlow, hhigh]
  omega

theorem costInRange_readCost {b : List Byte}
    (h : firstBad (costTests b 0 ++ costTests b 3 ++ costTests b 6 ++ costTests b 9) = none) :
    costInRange (readCost b) = true := by
  rw [firstBad_eq_none_iff] at h
  simp only [costTests, rangeTest, inRange, List.cons_append, List.nil_append,
    List.forall_mem_cons, decide_eq_true_eq] at h
  simp only [beNat_one_eq] at h
  obtain ⟨hread, -, -, hwrite, -, -, hflush, -, -, hadmin, -⟩ := h
  simp [costInRange, readCost, costEntryInRange_readCostEntry, hread, hwrite, hflush, hadmin]

theorem optWithin_zeroField {v : Nat} (hv : v < 256) : optWithin 1 255 (zeroField v) = true := by
  unfold zeroField
  split
  · rfl
  · simp [optWithin, within]
    omega

theorem classesInRange_readClasses (b : List Byte) : classesInRange (readClasses b) = true := by
  simp [classesInRange, readClasses, optWithin_zeroField (byteAt_lt b _)]

theorem profileInRange_readProfile {b : List Byte} (h : firstBad (profileTests b) = none) :
    profileInRange (readProfile b) = true := by
  have hlow := beNat_two_lt b 2
  have hhigh := beNat_two_lt b 4
  have hceiling := beNat_four_lt b 6
  rw [firstBad_eq_none_iff] at h
  simp only [profileTests, rangeTest, inRange, List.forall_mem_cons, decide_eq_true_eq] at h
  obtain ⟨-, -, hbudget, -⟩ := h
  simp [profileInRange, readProfile, within, hbudget]
  omega

theorem trackerInRange_readTracker {b : List Byte} (h : firstBad (trackerTests b) = none) :
    trackerInRange (readTracker b) = true := by
  rw [firstBad_eq_none_iff] at h
  simp only [trackerTests, rangeTest, inRange, List.forall_mem_cons, decide_eq_true_eq] at h
  simp only [beNat_one_eq] at h
  obtain ⟨hsaturation, hlock, hunlock, hsilent, hfallback, hprobe, -⟩ := h
  simp [trackerInRange, readTracker, within, hsaturation, hlock, hunlock, hsilent, hfallback, hprobe]

theorem meterInRange_readMeter {b : List Byte} {i : Nat} (h : ∀ x ∈ meterTests b i, x.2 = true) :
    meterInRange (readMeter b i) = true := by
  simp only [meterTests, rangeTest, inRange, List.forall_mem_cons, decide_eq_true_eq] at h
  simp only [beNat_one_eq] at h
  obtain ⟨-, hthreshold, hamount, hepochs, -⟩ := h
  simp [meterInRange, readMeter, within, hthreshold, hamount, hepochs]

theorem paceInRange_readPace {b : List Byte} (h : firstBad (paceTests b) = none) : paceInRange (readPace b) = true := by
  have hepoch := beNat_two_lt b 1
  have hscan := byteAt_lt b 4
  rw [firstBad_eq_none_iff] at h
  simp only [paceTests, List.mem_append] at h
  have hmeterA := meterInRange_readMeter fun x hx => h x (.inl (.inr hx))
  have hmeterB := meterInRange_readMeter fun x hx => h x (.inr hx)
  simp [paceInRange, readPace, within, hmeterA, hmeterB]
  omega

theorem mem_of_zeroField {v : Nat} {l : List Nat} (hv : v ∈ 0 :: l) : zeroField v ∈ none :: l.map some := by
  unfold zeroField
  split
  · exact List.mem_cons_self
  · next hne => simpa [hne] using hv

theorem spoolInRange_readSpool {b : List Byte} (h : firstBad (spoolTests b) = none) : spoolInRange (readSpool b) = true := by
  rw [firstBad_eq_none_iff] at h
  simp only [spoolTests, rangeTest, offTest, listTest, inRange, List.forall_mem_cons, decide_eq_true_eq,
    Bool.or_eq_true] at h
  simp only [beNat_one_eq] at h
  obtain ⟨-, hbatching, hspacing, hcompression, hmask, hreserve, hwatermark, -, -, hthreshold, -⟩ := h
  have hbatching' := optWithin_offField (lo := 0) (hi := 15) hbatching
  have hspacing' := mem_of_zeroField hspacing
  have hcompression' := mem_of_zeroField hcompression
  simp only [List.map_cons, List.map_nil] at hspacing' hcompression'
  simp only [spoolInRange, readSpool, within, hbatching', hspacing', hcompression', hmask, hreserve, hwatermark, hthreshold,
    decide_true, Bool.and_true, and_self]

theorem noticeMaskOk_readRoute {b : List Byte} (h : firstBad (noticeTests b) = none) :
    noticeMaskOk (readRoute b).mask = true := by
  rw [firstBad_eq_none_iff] at h
  simp only [noticeTests, optTests, List.cons_append, List.nil_append, List.forall_mem_cons] at h
  obtain ⟨-, -, -, hmask, -⟩ := h
  exact hmask

/-! ### Images -/

/-- A change of an image that keeps it in range, its lock count at least 1 and its watermark in range. -/
structure ImageKept (m im : Image) : Prop where
  range : imageInRange m → imageInRange im
  lockCount : 1 ≤ m.tracker.lockCount → 1 ≤ im.tracker.lockCount
  watermark : within 1 2048 m.spool.watermark = true → within 1 2048 im.spool.watermark = true

theorem ImageKept.refl (m : Image) : ImageKept m m := ⟨id, id, id⟩

theorem imageKept_slot {m : Image} (i : SlotId) {p : SlotPolicy} (hp : slotPolicyInRange p = true) :
    ImageKept m { m with slots := m.slots.set i.val p } where
  range h := by
    obtain ⟨hslots, hrest⟩ := h
    refine ⟨fun j => ?_, hrest⟩
    show slotPolicyInRange (m.slots.set i.val p)[j.val] = true
    rw [Vector.getElem_set]
    split
    · exact hp
    · exact hslots j
  lockCount := id
  watermark := id

theorem imageKept_profile {m : Image} (i : ProfileId) {p : Profile} (hp : profileInRange p = true) :
    ImageKept m { m with profiles := m.profiles.set i.val p } where
  range h := by
    obtain ⟨hslots, hpart, hcost, hclasses, hprofiles, hrest⟩ := h
    refine ⟨hslots, hpart, hcost, hclasses, fun j => ?_, hrest⟩
    show profileInRange (m.profiles.set i.val p)[j.val] = true
    rw [Vector.getElem_set]
    split
    · exact hp
    · exact hprofiles j
  lockCount := id
  watermark := id

theorem imageKept_part {m : Image} {p : PartValues} (hp : partInRange p = true) : ImageKept m { m with part := p } :=
  ⟨fun ⟨hslots, _, hrest⟩ => ⟨hslots, hp, hrest⟩, id, id⟩

theorem imageKept_cost {m : Image} {c : CostTable} (hc : costInRange c = true) : ImageKept m { m with cost := c } :=
  ⟨fun ⟨hslots, hpart, _, hrest⟩ => ⟨hslots, hpart, hc, hrest⟩, id, id⟩

theorem imageKept_classes {m : Image} {c : ClassTable} (hc : classesInRange c = true) : ImageKept m { m with classes := c } :=
  ⟨fun ⟨hslots, hpart, hcost, _, hrest⟩ => ⟨hslots, hpart, hcost, hc, hrest⟩, id, id⟩

theorem imageKept_tracker {m : Image} {c : TrackerParams} (hc : trackerInRange c = true) :
    ImageKept m { m with tracker := c } where
  range := fun ⟨hslots, hpart, hcost, hclasses, hprofiles, _, hrest⟩ =>
    ⟨hslots, hpart, hcost, hclasses, hprofiles, hc, hrest⟩
  lockCount _ := by
    simp only [trackerInRange, within, Bool.and_eq_true, decide_eq_true_eq] at hc
    exact hc.1.1.1.1.2.1
  watermark := id

theorem imageKept_pace {m : Image} {c : PaceSettings} (hc : paceInRange c = true) : ImageKept m { m with pace := c } :=
  ⟨fun ⟨hslots, hpart, hcost, hclasses, hprofiles, htracker, _, hrest⟩ =>
    ⟨hslots, hpart, hcost, hclasses, hprofiles, htracker, hc, hrest⟩, id, id⟩

theorem imageKept_spool {m : Image} {c : SpoolSettings} (hc : spoolInRange c = true) : ImageKept m { m with spool := c } where
  range := fun ⟨hslots, hpart, hcost, hclasses, hprofiles, htracker, hpace, _, hrest⟩ =>
    ⟨hslots, hpart, hcost, hclasses, hprofiles, htracker, hpace, hc, hrest⟩
  lockCount := id
  watermark _ := by
    simp only [spoolInRange, Bool.and_eq_true] at hc
    exact hc.1.2

theorem imageKept_routeA {m : Image} {r : NoticeRoute} (hr : noticeMaskOk r.mask = true) : ImageKept m { m with routeA := r } :=
  ⟨fun ⟨hslots, hpart, hcost, hclasses, hprofiles, htracker, hpace, hspool, _, hB⟩ =>
    ⟨hslots, hpart, hcost, hclasses, hprofiles, htracker, hpace, hspool, hr, hB⟩, id, id⟩

theorem imageKept_routeB {m : Image} {r : NoticeRoute} (hr : noticeMaskOk r.mask = true) : ImageKept m { m with routeB := r } :=
  ⟨fun ⟨hslots, hpart, hcost, hclasses, hprofiles, htracker, hpace, hspool, hA, _⟩ =>
    ⟨hslots, hpart, hcost, hclasses, hprofiles, htracker, hpace, hspool, hA, hr⟩, id, id⟩

end Sys2Proof.Machine

/-! SUPPORT. Withdrawals: what emptying one hold queue, and every hold queue, does (R52, R55). -/

namespace Sys2Proof.Machine

/-- The DONEs that withdrawing every command of a slot sends, in queue order. -/
def withdrawals (s : State) (i : SlotId) : List Frame :=
  (s.slot i).queue.map fun h => buildDone s.transportType h.frame .withdrawn

/-- The origin queue once the DONEs given are sent: those that find a place. -/
def sentOrigin (s : State) (dones : List Frame) : List Frame :=
  s.originQueue ++ dones.take (64 - s.originQueue.length)

/-- The lost-DONE counters once the DONEs given are sent: those that find no place are counted. -/
def sentLost (s : State) (dones : List Frame) : LostDone :=
  { s.lostDone with
    withdrawn := s.lostDone.withdrawn + BitVec.ofNat 32 (dones.length - (64 - s.originQueue.length)) }

theorem sentOrigin_length_le (s : State) (dones : List Frame) (hs : s.originQueue.length ≤ 64) :
    (sentOrigin s dones).length ≤ 64 := by
  rw [sentOrigin, List.length_append, List.length_take]
  omega

theorem withdrawAll_eq (s : State) (i : SlotId) :
    withdrawAll s i =
      { s.modSlot i withdrawnSlot with
        originQueue := sentOrigin s (withdrawals s i), lostDone := sentLost s (withdrawals s i) } := by
  unfold withdrawAll
  rw [foldl_withdrawOne_eq]
  simp only [slot_modSlot_self, sentOrigin, sentLost, withdrawals, List.length_map]
  simp [State.modSlot, State.setSlot, withdrawnSlot, State.slot, State.transportType]

/-- Sending one list of DONEs and then another is sending both. -/
theorem sentOrigin_append (s : State) (a b : List Frame) :
    sentOrigin { s with originQueue := sentOrigin s a } b = sentOrigin s (a ++ b) := by
  simp only [sentOrigin, List.length_append, List.length_take, List.append_assoc, List.take_append]
  congr 2
  congr 1
  omega

/-- The frames that find no place add up in the same way. -/
theorem unsent_append (s : State) (a b : List Frame) :
    a.length - (64 - s.originQueue.length) + (b.length - (64 - (sentOrigin s a).length)) =
      (a ++ b).length - (64 - s.originQueue.length) := by
  simp only [sentOrigin, List.length_append, List.length_take]
  omega

theorem sentLost_append (s : State) (a b : List Frame) :
    sentLost { s with originQueue := sentOrigin s a, lostDone := sentLost s a } b = sentLost s (a ++ b) := by
  simp only [sentLost]
  rw [← unsent_append, BitVec.ofNat_add, BitVec.add_assoc]

theorem mapSlots_eq_self {s : State} {g : SlotId → Slot → Slot} (hg : ∀ i, g i (s.slot i) = s.slot i) : s.mapSlots g = s := by
  have hslots : (s.mapSlots g).slots = s.slots := slots_ext _ _ fun i => by rw [slot_mapSlots, hg]
  exact congrArg (fun v => { s with slots := v }) hslots

/-- Every queue of a list of slots withdrawn, slot by slot. -/
theorem foldl_withdrawAll_eq (l : List SlotId) (hl : l.Nodup) (s : State) :
    l.foldl withdrawAll s =
      { s.mapSlots (fun i x => if i ∈ l then withdrawnSlot x else x) with
        originQueue := sentOrigin s (l.flatMap (withdrawals s)), lostDone := sentLost s (l.flatMap (withdrawals s)) } := by
  induction l generalizing s with
  | nil =>
    rw [mapSlots_eq_self fun i => by simp]
    simp [sentOrigin, sentLost]
  | cons i l ih =>
    obtain ⟨hi, hl⟩ := List.nodup_cons.mp hl
    have hrest : l.flatMap (withdrawals (withdrawAll s i)) = l.flatMap (withdrawals s) := by
      rw [List.flatMap_def, List.flatMap_def]
      refine congrArg List.flatten (List.map_congr_left fun j hj => ?_)
      have hne : j ≠ i := fun e => hi (e ▸ hj)
      rw [withdrawAll_eq]
      show ((s.modSlot i withdrawnSlot).slot j).queue.map _ = _
      rw [slot_modSlot_other _ _ _ _ hne]
      rfl
    have hslots : ((withdrawAll s i).mapSlots fun j x => if j ∈ l then withdrawnSlot x else x).slots =
        (s.mapSlots fun j x => if j ∈ i :: l then withdrawnSlot x else x).slots := by
      refine slots_ext _ _ fun j => ?_
      rw [slot_mapSlots, slot_mapSlots, withdrawAll_eq]
      show (if j ∈ l then withdrawnSlot ((s.modSlot i withdrawnSlot).slot j) else (s.modSlot i withdrawnSlot).slot j) = _
      rw [slot_modSlot]
      by_cases hj : j = i
      · subst hj
        simp [hi]
      · simp [hj]
    rw [List.foldl_cons, ih hl, hrest]
    have horigin := sentOrigin_append s (withdrawals s i) (l.flatMap (withdrawals s))
    have hlost := sentLost_append s (withdrawals s i) (l.flatMap (withdrawals s))
    have hstate : ∀ q d, { (withdrawAll s i).mapSlots (fun j x => if j ∈ l then withdrawnSlot x else x) with
        originQueue := q, lostDone := d } =
        { s.mapSlots (fun j x => if j ∈ i :: l then withdrawnSlot x else x) with originQueue := q, lostDone := d } := by
      intro q d
      have := congrArg (fun v => { s with slots := v, originQueue := q, lostDone := d }) hslots
      rw [withdrawAll_eq] at this ⊢
      exact this
    rw [hstate]
    have e1 : sentOrigin (withdrawAll s i) (l.flatMap (withdrawals s)) = sentOrigin s ((i :: l).flatMap (withdrawals s)) := by
      rw [withdrawAll_eq]; exact horigin
    have e2 : sentLost (withdrawAll s i) (l.flatMap (withdrawals s)) = sentLost s ((i :: l).flatMap (withdrawals s)) := by
      rw [withdrawAll_eq]; exact hlost
    rw [e1, e2]

theorem trafficStore_eq (s : State) :
    trafficStore s =
      { s.mapSlots (fun _ x => withdrawnSlot x) with
        originQueue := sentOrigin s (allSlots.flatMap (withdrawals s))
        lostDone := sentLost s (allSlots.flatMap (withdrawals s))
        tracker := { s.tracker with released := [] } } := by
  have hall : ∀ i : SlotId, i ∈ allSlots := List.mem_finRange
  unfold trafficStore
  dsimp only
  rw [foldl_withdrawAll_eq allSlots (List.nodup_finRange 128)]
  simp only [hall, if_true]
  rfl

/-- Two passes over the slots are one. -/
theorem mapSlots_mapSlots (s : State) (g g' : SlotId → Slot → Slot) :
    (s.mapSlots g).mapSlots g' = s.mapSlots fun i x => g' i (g i x) := by
  have hslots : ((s.mapSlots g).mapSlots g').slots = (s.mapSlots fun i x => g' i (g i x)).slots :=
    slots_ext _ _ fun i => by simp
  exact congrArg (fun v => { s with slots := v }) hslots

/-- A TRAFFIC reset's clearing of records and slots. -/
theorem trafficStore_mapSlots (s : State) :
    (trafficStore s).mapSlots (fun _ x => trafficSlot x) =
      { s.mapSlots (fun _ x => trafficSlot (withdrawnSlot x)) with
        originQueue := sentOrigin s (allSlots.flatMap (withdrawals s))
        lostDone := sentLost s (allSlots.flatMap (withdrawals s))
        tracker := { s.tracker with released := [] } } := by
  have hslots := congrArg State.slots (mapSlots_mapSlots s (fun _ x => withdrawnSlot x) fun _ x => trafficSlot x)
  rw [trafficStore_eq]
  exact congrArg
    (fun v => { s with
      slots := v, originQueue := sentOrigin s (allSlots.flatMap (withdrawals s))
      lostDone := sentLost s (allSlots.flatMap (withdrawals s)), tracker := { s.tracker with released := [] } })
    hslots

/-- An unbind's withdrawal: the slot DRAINING with its queue empty, its DONEs sent or counted as lost. -/
theorem withdrawAll_draining (s : State) (i : SlotId) :
    (withdrawAll (s.modSlot i fun x => { x with state := .draining }) i).modSlot i drainingSlot =
      { s.modSlot i fun x => drainingSlot (withdrawnSlot x) with
        originQueue := sentOrigin s (withdrawals s i), lostDone := sentLost s (withdrawals s i) } := by
  have hdones : withdrawals (s.modSlot i fun x => { x with state := .draining }) i = withdrawals s i := by
    unfold withdrawals
    rw [slot_modSlot_self]
    rfl
  have hslots : ((s.modSlot i fun x => { x with state := .draining }).modSlot i withdrawnSlot).modSlot i drainingSlot =
      s.modSlot i fun x => drainingSlot (withdrawnSlot x) := by
    rw [modSlot_modSlot_same, modSlot_modSlot_same]
    rfl
  rw [withdrawAll_eq, hdones]
  exact congrArg
    (fun v => { s with
      slots := v, originQueue := sentOrigin s (withdrawals s i), lostDone := sentLost s (withdrawals s i) })
    (congrArg State.slots hslots)

end Sys2Proof.Machine

/-! SUPPORT. Every request, every reset and so every command is a sequence of moves. -/

namespace Sys2Proof.Machine

namespace Moves

variable {u : Prop} {s t : State}

/-! ### The Agent's handling of a request -/

theorem completeRequest (h : Moves u s t) (c : Completion) : Moves u s (completeRequest c t) := by
  have htail : t.agent.buffer.tail.length ≤ t.agent.buffer.length := by
    rw [List.length_tail]
    omega
  unfold Machine.completeRequest
  cases c <;> exact h.agentKept htail

theorem placeResponse (h : Moves u s t) (w : WaitingResponse) : Moves u s (placeResponse w t) := by
  unfold Machine.placeResponse
  exact .ite (fun hspace => (h.pushOrigin _ hspace).completeRequest _) fun _ => h.agentKept

theorem takeRequest (h : Moves u s t) (accepts : Frame → Bool) {serve : Frame → State → State × Reply}
    (hserve : ∀ req, Moves u s (serve req t).1) : Moves u s (takeRequest accepts serve t) := by
  unfold Machine.takeRequest
  refine .ite (fun _ => h) fun _ => ?_
  split
  · exact h
  · exact .ite (fun _ => (hserve _).placeResponse _) fun _ => h

theorem serveSized (h : Moves u s t) (size : Nat) {handle : List Byte → State → State × Reply}
    (hhandle : ∀ b, Moves u s (handle b t).1) (req : Frame) : Moves u s (serveSized size handle req t).1 := by
  unfold Machine.serveSized
  split
  · exact h
  · split
    · exact h
    · exact hhandle _

theorem takeKind (h : Moves u s t) (code size : Nat) {handle : List Byte → State → State × Reply}
    (hhandle : ∀ b, Moves u s (handle b t).1) : Moves u s (takeKind code size handle t) :=
  h.takeRequest _ (h.serveSized size hhandle)

theorem retryResponse (h : Moves u s t) : Moves u s (retryResponse t) := by
  unfold Machine.retryResponse
  refine .ite (fun _ => h) fun _ => ?_
  split
  · exact h
  · exact .ite (fun hspace => (h.pushOrigin _ hspace).completeRequest _) fun _ => h

theorem serveUnknown (h : Moves u s t) (req : Frame) : Moves u s (serveUnknown req t).1 := by
  unfold Machine.serveUnknown
  split <;> exact h

/-! ### Policy Stage -/

theorem modStaged (h : Moves u s t) (g : Image → Image) (hidle : t.policy.commitPending = false)
    (hg : (PolicyInRange t → imageInRange (g t.policy.staged)) ∧
      (1 ≤ t.policy.staged.tracker.lockCount → 1 ≤ t.policy.active.tracker.lockCount →
        1 ≤ (g t.policy.staged).tracker.lockCount) ∧
      (SpoolBounded t → within 1 2048 (g t.policy.staged).spool.watermark = true)) : Moves u s (t.modStaged g) :=
  h.move (.staged _ hidle hg.1 hg.2.1 hg.2.2)

theorem stage (h : Moves u s t) {tests : List (Nat × Bool)} {write : Image → Image}
    (hwrite : firstBad tests = none → ImageKept t.policy.staged (write t.policy.staged)) :
    Moves u s (stage tests write t).1 := by
  unfold Machine.stage
  split
  · exact h
  · next hidle =>
    split
    · exact h
    · next htests =>
      obtain ⟨hrange, hlock, hmark⟩ := hwrite htests
      exact h.modStaged write (by simpa using hidle)
        ⟨fun hs => hrange hs.1, fun hs _ => hlock hs, fun hs => hmark hs.2.2⟩

theorem stageSlot (h : Moves u s t) (b : List Byte) : Moves u s (stageSlot b t).1 := by
  unfold Machine.stageSlot
  split
  · exact h
  · exact h.stage fun hok => imageKept_slot _ (slotPolicyInRange_readSlotPolicy hok)

theorem stageProfile (h : Moves u s t) (b : List Byte) : Moves u s (stageProfile b t).1 := by
  refine h.stage fun hok => ?_
  split
  · exact .refl _
  · exact imageKept_profile _ (profileInRange_readProfile hok)

theorem stageNotice (h : Moves u s t) (b : List Byte) : Moves u s (stageNotice b t).1 := by
  refine h.stage fun hok => ?_
  split
  · exact imageKept_routeA (noticeMaskOk_readRoute hok)
  · exact imageKept_routeB (noticeMaskOk_readRoute hok)

theorem commit (h : Moves u s t) (b : List Byte) : Moves u s (commit b t).1 := by
  unfold Machine.commit
  split
  · exact h
  · split
    · exact h
    · next hforced => exact h.move (.committed _ hforced)

theorem discard (h : Moves u s t) (b : List Byte) : Moves u s (discard b t).1 := by
  unfold Machine.discard
  split
  · exact h
  · next hidle =>
    exact h.modStaged (fun _ => t.policy.active) (by simpa using hidle)
      ⟨fun hs => hs.2, fun _ hs => hs, fun hs => hs.2.1⟩

/-! ### Directory -/

theorem withSlot (h : Moves u s t) (b : List Byte) {handle : SlotId → State → State × Reply}
    (hhandle : ∀ i, Moves u s (handle i t).1) : Moves u s (withSlot b handle t).1 := by
  unfold Machine.withSlot
  split
  · exact h
  · exact hhandle _

theorem withBindable (h : Moves u s t) (b : List Byte) {handle : SlotId → State → State × Reply}
    (hhandle : ∀ i, i ≠ 0 → Moves u s (handle i t).1) : Moves u s (withBindable b handle t).1 := by
  refine h.withSlot b fun i => ?_
  split
  · exact h
  · next hi => exact hhandle i hi

theorem bindChecked (h : Moves u s t) (a : FabAddr) {i : SlotId} (hi : i ≠ 0) : Moves u s (bindChecked a i t).1 := by
  unfold Machine.bindChecked
  split
  · exact h
  · next hvacant =>
    split
    · exact h
    · next hmap =>
      have hfree : mapLookup t a = none := by simpa using hmap
      exact h.move (.bound i a hi (Classical.not_not.mp hvacant) hfree)

/-- An unbind up to the drain's end: the held commands withdrawn and the slot DRAINING. -/
theorem withdrawAndDrain (h : Moves u s t) {i : SlotId} (hi : i ≠ 0) (hopen : (t.slot i).state.Open) :
    Moves u s ((withdrawAll (t.modSlot i fun x => { x with state := .draining }) i).modSlot i drainingSlot) := by
  rw [withdrawAll_draining]
  have hsent := (h.move (.unbound i hi hopen)).origin (q := sentOrigin t (withdrawals t i)) (sentOrigin_length_le t _)
  exact hsent.withLostDone _

theorem unbindChecked (h : Moves u s t) {i : SlotId} (hi : i ≠ 0) : Moves u s (unbindChecked i t).1 := by
  unfold Machine.unbindChecked
  split
  · exact h
  · next hopen => exact (h.withdrawAndDrain hi (not_or.mp hopen)).completeDrain i

theorem suspendChecked (h : Moves u s t) (i : SlotId) : Moves u s (suspendChecked i t).1 := by
  unfold Machine.suspendChecked
  split
  · next hstate =>
    exact h.modSlot i (fun x => { x with state := .suspended })
      (.opened (.of_bound_or_suspended (.inl hstate)) (by exact ⟨nofun, nofun⟩)) id
  · exact h

theorem resumeChecked (h : Moves u s t) (i : SlotId) : Moves u s (resumeChecked i t).1 := by
  unfold Machine.resumeChecked
  split
  · next hstate =>
    have hresumed := h.modSlot i (fun x => { x with state := .bound })
      (.opened (.of_bound_or_suspended (.inr hstate)) (by exact ⟨nofun, nofun⟩)) id
    exact hresumed.decideRelease
  · exact h

theorem clearQuarantineChecked (h : Moves u s t) (i : SlotId) : Moves u s (clearQuarantineChecked i t).1 := by
  unfold Machine.clearQuarantineChecked
  split
  · next hstate =>
    have hcleared := h.modSlot i (fun x => { x with state := .bound, violations := 0 })
      (.opened (by rw [hstate]; exact ⟨nofun, nofun⟩) (by exact ⟨nofun, nofun⟩)) id
    exact hcleared.decideRelease
  · exact h

/-! ### Monitor, spool and Agent -/

theorem forceProfile (h : Moves u s t) (b : List Byte) : Moves u s (forceProfile b t).1 := by
  unfold Machine.forceProfile
  split
  · exact h
  · next p _ =>
    split
    · next hok =>
      refine h.modMonitor _ fun hn => ⟨nofun, fun _ => ⟨p, rfl, ?_⟩, hn.2.2⟩
      simp only [forceable, Bool.and_eq_true, Bool.or_eq_true, Bool.not_eq_true'] at hok
      exact ⟨hok.1, fun hpending => hok.2.resolve_left fun e => nomatch e.symm.trans hpending⟩
    · exact h

theorem releaseForce (h : Moves u s t) (b : List Byte) : Moves u s (releaseForce b t).1 := by
  unfold Machine.releaseForce
  split
  · exact h.modMonitor_of_loose _
  · exact h

theorem calibrate (h : Moves u s t) (b : List Byte) : Moves u s (calibrate b t).1 := by
  unfold Machine.calibrate
  split
  · exact h
  · split
    · exact h
    · exact (h.modMonitor_of_same fun m => { m with cal := newCalibration (byteAt b 0) (beNat b 1 2) t.pace.epoch }).aside

theorem spoolRead (h : Moves u s t) (b : List Byte) : Moves u s (spoolRead b t).1 := by
  unfold Machine.spoolRead
  split
  · exact h.modSpool_of_le (fun x => { x with entries := x.entries.drop (readCount (byteAt b 0) t) })
      (Nat.le_trans (Nat.le_of_eq (List.length_drop ..)) (Nat.sub_le _ _))
  · exact h

theorem clearSpool (h : Moves u s t) : Moves u s (clearSpool t) := by
  unfold Machine.clearSpool
  exact Moves.setFullNext (h.modSpool_of_le _ (Nat.zero_le _))

theorem clearNotices (h : Moves u s t) (b : List Byte) : Moves u s (clearNotices b t).1 := by
  unfold Machine.clearNotices
  dsimp only
  split
  · exact h.agentKept
  · exact h

theorem setManagers (h : Moves u s t) (req : Frame) : Moves u s (setManagers req t).1 := by
  unfold Machine.setManagers
  dsimp only
  split
  · exact h
  · split
    · exact h
    · split
      · exact h
      · next hcount =>
        split
        · exact h
        · refine h.move (.agent _ id fun _ => ?_)
          rw [managerAddresses, List.length_map, List.length_range]
          exact Nat.le_of_not_lt hcount

theorem rename (h : Moves u s t) (b : List Byte) : Moves u s (rename b t).1 := by
  unfold Machine.rename
  dsimp only
  split <;> exact h

theorem resetPart (h : Moves u s t) (b : List Byte) : Moves u s (resetPart b t).1 := by
  unfold Machine.resetPart
  split <;> exact h

/-! ### Soft resets -/

theorem fullReset (h : Moves u s t) : Moves u s (fullReset t) := by
  unfold Machine.fullReset
  exact .ite (fun _ => h.move .fullReset) fun _ => h

theorem trafficBlocks (h : Moves u s t) : Moves u s (trafficBlocks t) := by
  have hstore : Moves u s ((trafficStore t).mapSlots fun _ x => trafficSlot x) := by
    have hsent := h.origin (q := sentOrigin t (allSlots.flatMap (withdrawals t))) (sentOrigin_length_le t _)
    rw [trafficStore_mapSlots]
    exact Moves.withLostDone (hsent.move .cleared) _
  unfold Machine.trafficBlocks
  generalize (trafficStore t).mapSlots (fun _ x => trafficSlot x) = v at hstore ⊢
  have hcleared := (hstore.withSched (trafficScheduler v.sched)).modMonitor_of_loose trafficMonitor
  exact (hcleared.cancelCalibration.modPace fun b => { b with holdSpan := 0 }).reloadMeters

theorem trafficReset (h : Moves u s t) : Moves u s (trafficReset t) := by
  unfold Machine.trafficReset
  refine .ite (fun _ => ?_) fun _ => h
  have hrecord := h.trafficBlocks.offerEvent .reset none 2#32
  unfold endResetDue
  exact hrecord.agentKept

end Moves

end Sys2Proof.Machine

/-! SUPPORT. Each command's meaning as a sequence of moves, and what every step keeps. -/

namespace Sys2Proof.Machine

/-- Every command is a sequence of moves; the walk's moves rest on the records being sound at the start. -/
theorem exec_moves (c : Instr) (s : State) : ∃ t, exec c s = .next t ∧ Moves (RecordsSound s) s t := by
  have h : Moves (RecordsSound s) s s := .refl
  cases c with
  | powerOn => exact ⟨_, rfl, h.move .held⟩
  | rstN => exact ⟨_, rfl, h.move .held⟩
  | resetEnd straps linkF linkT => exact ⟨_, rfl, h.endReset straps linkF linkT⟩
  | linkUp p => exact ⟨_, rfl, h.raiseLink p⟩
  | linkDown p => exact ⟨_, rfl, h.lowerLink p⟩
  | frameReceive p fcsGood arrival =>
    exact ⟨_, rfl, .ite (fun _ => h.receive _ p _) fun _ => h.receiveBad p⟩
  | command arrival => exact ⟨_, rfl, h.receive _ _ _⟩
  | ready frame => exact ⟨_, rfl, h.receive _ _ _⟩
  | data p frame => exact ⟨_, rfl, h.receive _ _ _⟩
  | done frame => exact ⟨_, rfl, h.receive _ _ _⟩
  | abort frame => exact ⟨_, rfl, h.receive _ _ _⟩
  | hold frame => exact ⟨_, rfl, h.receive _ _ _⟩
  | holdCountdownExpiry => exact ⟨_, rfl, h.takeHoldExpiry⟩
  | egressTake p => exact ⟨_, rfl, h.takeNext p⟩
  | transmissionEnd p => exact ⟨_, rfl, h.endTransmission p⟩
  | epochBoundary turn => exact ⟨_, rfl, h.epochBoundary turn⟩
  | calExpiry => exact ⟨_, rfl, h.takeCalExpiry⟩
  | meterExpiry m => exact ⟨_, rfl, h.takeMeterExpiry m⟩
  | scanPass idle starve => exact ⟨_, rfl, h.scanPass id idle starve⟩
  | mreqArrival frame => exact ⟨_, rfl, h.receive _ _ _⟩
  | responsePlacement => exact ⟨_, rfl, h.retryResponse⟩
  | unknownKind => exact ⟨_, rfl, h.takeRequest _ h.serveUnknown⟩
  | queryPart => exact ⟨_, rfl, h.takeKind _ _ fun _ => h⟩
  | stageSlot => exact ⟨_, rfl, h.takeKind _ _ h.stageSlot⟩
  | stagePart =>
    exact ⟨_, rfl, h.takeKind _ _ fun _ => h.stage fun hok => imageKept_part (partInRange_readPart hok)⟩
  | stageCost =>
    exact ⟨_, rfl, h.takeKind _ _ fun _ => h.stage fun hok => imageKept_cost (costInRange_readCost hok)⟩
  | stageClass =>
    exact ⟨_, rfl, h.takeKind _ _ fun b => h.stage fun _ => imageKept_classes (classesInRange_readClasses b)⟩
  | stageProfile => exact ⟨_, rfl, h.takeKind _ _ h.stageProfile⟩
  | stageTracker =>
    exact ⟨_, rfl, h.takeKind _ _ fun _ => h.stage fun hok => imageKept_tracker (trackerInRange_readTracker hok)⟩
  | stagePace =>
    exact ⟨_, rfl, h.takeKind _ _ fun _ => h.stage fun hok => imageKept_pace (paceInRange_readPace hok)⟩
  | stageSpool =>
    exact ⟨_, rfl, h.takeKind _ _ fun _ => h.stage fun hok => imageKept_spool (spoolInRange_readSpool hok)⟩
  | stageNotice => exact ⟨_, rfl, h.takeKind _ _ h.stageNotice⟩
  | commit => exact ⟨_, rfl, h.takeKind _ _ h.commit⟩
  | discard => exact ⟨_, rfl, h.takeKind _ _ h.discard⟩
  | readStageDigest => exact ⟨_, rfl, h.takeKind _ _ fun _ => h⟩
  | bind =>
    exact ⟨_, rfl, h.takeKind _ _ fun b => h.withBindable b fun _ hi => h.bindChecked _ hi⟩
  | unbind => exact ⟨_, rfl, h.takeKind _ _ fun b => h.withBindable b fun _ hi => h.unbindChecked hi⟩
  | suspend => exact ⟨_, rfl, h.takeKind _ _ fun b => h.withSlot b h.suspendChecked⟩
  | resume => exact ⟨_, rfl, h.takeKind _ _ fun b => h.withSlot b h.resumeChecked⟩
  | clearQuarantine => exact ⟨_, rfl, h.takeKind _ _ fun b => h.withSlot b h.clearQuarantineChecked⟩
  | readSlot => exact ⟨_, rfl, h.takeKind _ _ fun b => h.withSlot b fun _ => h⟩
  | readCounters => exact ⟨_, rfl, h.takeKind _ _ fun _ => h⟩
  | readMonitor => exact ⟨_, rfl, h.takeKind _ _ fun _ => h⟩
  | forceProfile => exact ⟨_, rfl, h.takeKind _ _ h.forceProfile⟩
  | releaseForce => exact ⟨_, rfl, h.takeKind _ _ h.releaseForce⟩
  | calibrate => exact ⟨_, rfl, h.takeRequest _ (h.serveSized 3 h.calibrate)⟩
  | calibrateCancel => exact ⟨_, rfl, h.takeRequest _ (h.serveSized 3 fun _ => h.cancelCalibration)⟩
  | spoolRead => exact ⟨_, rfl, h.takeKind _ _ h.spoolRead⟩
  | spoolTrigger => exact ⟨_, rfl, h.takeKind _ _ fun _ => h.offerTrigger none 0⟩
  | spoolClear => exact ⟨_, rfl, h.takeKind _ _ fun _ => h.clearSpool⟩
  | clearNotices => exact ⟨_, rfl, h.takeKind _ _ h.clearNotices⟩
  | setManagers => exact ⟨_, rfl, h.takeRequest _ h.setManagers⟩
  | rename => exact ⟨_, rfl, h.takeKind _ _ h.rename⟩
  | resetPartFull => exact ⟨_, rfl, h.takeRequest _ (h.serveSized 1 h.resetPart)⟩
  | resetPartTraffic => exact ⟨_, rfl, h.takeRequest _ (h.serveSized 1 h.resetPart)⟩
  | fullReset => exact ⟨_, rfl, h.fullReset⟩
  | trafficReset => exact ⟨_, rfl, h.trafficReset⟩
  | scanChannelStopped => exact ⟨_, rfl, h.stopScan⟩

/-! ### Steps -/

/-- What a step with an empty queue changes: the Scheduler's countdown, the Pace Bank, the queue and the free values. -/
theorem idle_touches (s : State) :
    idle s =
      { s with
        sched := (idle s).sched, pace := (idle s).pace, pending := (idle s).pending, freeChoices := (idle s).freeChoices } := by
  unfold idle
  split
  · rfl
  · split
    · rfl
    · split <;> rfl

/-- What every move of a step keeps, and what does not read the Scheduler, the Pace Bank, the queue or the free values, the step
keeps. -/
theorem step_keeps {P : State → Prop} (hP : ∀ s, P s → ∀ a b, Move (RecordsSound s) a b → P a → P b)
    (hidle : ∀ s sched pace pending freeChoices, P s →
      P { s with sched := sched, pace := pace, pending := pending, freeChoices := freeChoices }) {s t : State} (hs : P s)
    (h : step s = .next t) : P t := by
  unfold step at h
  split at h
  · obtain rfl := Host.Outcome.next.inj h
    rw [idle_touches]
    exact hidle _ _ _ _ _ hs
  · next c rest _ =>
    have hs' := hidle s s.sched s.pace rest s.freeChoices hs
    obtain ⟨v, hv, hmoves⟩ := exec_moves c { s with pending := rest }
    obtain rfl : v = t := Host.Outcome.next.inj (hv.symm.trans h)
    exact hmoves.keep (hP _ hs') hs'

/-- Settles O51: no move lengthens a queue past its size. -/
theorem stepKeepsQueuesBounded : Obligations.StepKeepsQueuesBounded := fun _ _ =>
  step_keeps (fun _ _ _ _ hm => hm.queuesBounded) fun _ _ _ _ _ h => h

/-- Settles O52: what is staged passes its field tests, and the active image changes to staged values alone. -/
theorem stepKeepsPolicyInRange : Obligations.StepKeepsPolicyInRange := fun _ _ =>
  step_keeps (fun _ _ _ _ hm => hm.policyInRange) fun _ _ _ _ _ h => h

/-- Settles O53: each move keeps the records together sound; the walk's moves name records of the list that the step began with. -/
theorem stepKeepsRecordsSound : Obligations.StepKeepsRecordsSound := fun _ _ =>
  step_keeps (fun _ hs _ _ hm => hm.recordsSound hs) fun _ _ _ _ _ h => h

/-- Settles O54: one move alone adds a record, and it needs room in the pool. -/
theorem stepKeepsPoolBounded : Obligations.StepKeepsPoolBounded := fun _ _ =>
  step_keeps (fun _ _ _ _ hm => hm.poolBounded) fun _ _ _ _ _ h => h

/-- Settles O55: each move that changes a depth counts it. -/
theorem stepKeepsAdmissionsAccounted : Obligations.StepKeepsAdmissionsAccounted := fun _ _ =>
  step_keeps (fun _ _ _ _ hm => hm.admissionsAccounted) fun _ _ _ _ _ h => h

/-- Settles O56: a balance rises to the cap at most, falls to -32768 at most, and is clamped where the cap changes. -/
theorem stepKeepsBalancesBounded : Obligations.StepKeepsBalancesBounded := fun _ _ =>
  step_keeps (fun _ _ _ _ hm => hm.balancesBounded) fun _ _ _ _ _ h => h

/-- Settles O57: an address comes with a bind that found it free and goes with the drain's end. -/
theorem stepKeepsDirectorySound : Obligations.StepKeepsDirectorySound := fun _ _ =>
  step_keeps (fun _ _ _ _ hm => hm.directorySound) fun _ _ _ _ _ h => h

/-- Settles O58: a tracker locks to an entry that matched, and starts afresh where the table changes under it. -/
theorem stepKeepsNamedProfileValid : Obligations.StepKeepsNamedProfileValid := fun _ _ =>
  step_keeps (fun _ _ _ _ hm => hm.namedProfileValid) fun _ _ _ _ _ h => h

/-- Settles O59: an entry is put where there is room, and an apply discards down to the new capacity. -/
theorem stepKeepsSpoolBounded : Obligations.StepKeepsSpoolBounded := fun _ _ =>
  step_keeps (fun _ _ _ _ hm => hm.spoolBounded) fun _ _ _ _ _ h => h

/-- Settles O3: a command is a sequence of moves, and no move touches the queue or the free values. -/
theorem everyCommandAnswersNext : Obligations.EveryCommandAnswersNext := fun c s => by
  obtain ⟨t, ht, hmoves⟩ := exec_moves c s
  refine ⟨t, ht, hmoves.keep (P := fun v => v.pending = s.pending ∧ v.freeChoices = s.freeChoices) ?_ ⟨rfl, rfl⟩⟩
  intro a b hm ha
  obtain ⟨hpending, hchoices⟩ := hm.queue
  exact ⟨hpending.trans ha.1, hchoices.trans ha.2⟩

end Sys2Proof.Machine

/-! SUPPORT. Steps, reset, links and egress: each command on the states that its statement names. -/

namespace Sys2Proof.Machine

/-! ### Steps and reset -/

/-- Settles O1: the step's match on the queue. -/
theorem stepRunsFrontCommand : Obligations.StepRunsFrontCommand := by
  intro c rest s h
  unfold step
  rw [h]

/-- Settles O60: each invariant holds of the reset state, whose images are the default and whose queues are empty. -/
theorem resetSatisfiesInvariants : Obligations.ResetSatisfiesInvariants := by
  have hqueues : QueuesBounded State.reset :=
    ⟨Nat.zero_le _, Nat.zero_le _, Nat.zero_le _, Nat.zero_le _, Nat.zero_le _⟩
  exact ⟨hqueues, ⟨imageInRange_default, imageInRange_default⟩, recordsSound_reset rfl rfl,
    poolBounded_empty rfl resetSlots_queue, accounted_resetSlots,
    balancesBounded_of_zero fun i => congrArg Slot.balance (resetSlots_getElem i), directorySound_reset rfl,
    namedProfileValid_reset rfl rfl, spoolBounded_reset rfl rfl⟩

/-- Settles O4: both commands give the state that reset holds, field by field; a slot's fields are those of its entry in the table. -/
theorem powerOnAndRstN : Obligations.PowerOnAndRstN := by
  intro s
  refine ⟨State.held s.freeChoices s.pending, rfl, rfl, rfl, fun i => ?_, ?_⟩
  · have e : (State.held s.freeChoices s.pending).slot i = { resetSlot with state := if i = 0 then .bound else .vacant } :=
      resetSlots_getElem i
    rw [e]
    exact ⟨rfl, rfl, rfl, rfl, rfl, rfl, rfl, rfl, rfl, rfl, rfl, rfl, rfl, rfl, rfl, rfl, rfl, rfl, rfl⟩
  · exact ⟨rfl, rfl, rfl, rfl, rfl, rfl, rfl, rfl, rfl, rfl, rfl, rfl, rfl, rfl, rfl, rfl, rfl, rfl, rfl, rfl, rfl, rfl, rfl,
      rfl, rfl, rfl, rfl, rfl, rfl, rfl⟩

/-- Settles O5: the end of reset samples links and straps and starts the Pace Bank. -/
theorem resetEndStartsThePart : Obligations.ResetEndStartsThePart := by
  intro straps linkF linkT s hreset
  refine ⟨endReset straps linkF linkT s, rfl, ?_⟩
  unfold endReset
  rw [if_pos hreset]
  exact ⟨rfl, rfl, rfl, rfl, rfl, rfl⟩

/-! ### Links -/

theorem raiseLink_of_up {s : State} {p : Port} (h : (s.port p).link = .up) : raiseLink p s = s := by
  unfold raiseLink
  rw [if_pos (.inr h)]

theorem lowerLink_of_down {s : State} {p : Port} (h : (s.port p).link = .down) : lowerLink p s = s := by
  unfold lowerLink
  rw [if_pos (.inr h)]

theorem raiseLink_of_down {s : State} {p : Port} (hreset : s.inReset = false) (h : (s.port p).link = .down) :
    raiseLink p s = if p = .t then decideRelease (setLink p .up s) else setLink p .up s := by
  unfold raiseLink
  rw [if_neg (by simp [hreset, h])]

theorem lowerLink_of_up {s : State} {p : Port} (hreset : s.inReset = false) (h : (s.port p).link = .up) :
    lowerLink p s = loseTransmission p (setLink p .down s) := by
  unfold lowerLink
  rw [if_neg (by simp [hreset, h])]

theorem loseTransmission_of_none {s : State} {p : Port} (h : (s.port p).sending = none) : loseTransmission p s = s := by
  unfold loseTransmission
  rw [h]

theorem loseTransmission_of_some {s : State} {p : Port} {f : Frame} {src : EgressSource}
    (h : (s.port p).sending = some (f, src)) :
    loseTransmission p s = countDiscard p src (freeTransmitter p s) := by
  unfold loseTransmission
  rw [h]

/-- Settles O6: a repeat leaves the state, a change sets the link; going down also loses what is under transmission. -/
theorem linkEvents : Obligations.LinkEvents := by
  intro s hreset
  refine ⟨fun p h => congrArg _ (raiseLink_of_up h), fun p h => congrArg _ (lowerLink_of_down h), fun h => ?_, fun h => ?_,
    fun h hidle => ?_, fun h hidle => ?_, fun f src h hsend => ?_, fun f h hsend => ?_, fun f h hsend => ?_⟩
  · exact congrArg _ (raiseLink_of_down (p := .f) hreset h)
  · exact congrArg _ (raiseLink_of_down (p := .t) hreset h)
  · exact congrArg _ ((lowerLink_of_up (p := .f) hreset h).trans (loseTransmission_of_none hidle))
  · exact congrArg _ ((lowerLink_of_up (p := .t) hreset h).trans (loseTransmission_of_none hidle))
  · exact congrArg _ ((lowerLink_of_up (p := .t) hreset h).trans (loseTransmission_of_some hsend))
  · exact congrArg _ ((lowerLink_of_up (p := .f) hreset h).trans (loseTransmission_of_some hsend))
  · exact congrArg _ ((lowerLink_of_up (p := .f) hreset h).trans (loseTransmission_of_some hsend))

/-! ### Egress -/

/-- A free transmitter's take of the frame that the arbiter chooses. -/
theorem takeNext_of_choice {s : State} {p : Port} {f : Frame} {src : EgressSource} (hreset : s.inReset = false)
    (hfree : (s.port p).sending = none) (hchoice : chooseSource p s = some (f, src)) :
    takeNext p s =
      afterTake p src
        (sendOrDiscard p f src ((removeTaken p src s).modPort p fun x => { x with turn := turnAfter src })) := by
  unfold takeNext
  rw [if_neg (by simp [hreset, hfree]), hchoice]

theorem chooseSource_forwarded {s : State} {p : Port} {f : Frame} {rest : List Frame}
    (hqueue : (s.port p).forwarded = f :: rest) (h : ownHead s p = none ∨ (s.port p).turn = .forwarded) :
    chooseSource p s = some (f, .forwarded) := by
  unfold chooseSource
  rw [hqueue]
  cases howned : ownHead s p with
  | none => rfl
  | some y =>
    rw [howned] at h
    obtain h | h := h
    · exact nomatch h
    · simp [h]

theorem chooseSource_own {s : State} {p : Port} {f : Frame} (howned : ownHead s p = some f)
    (h : (s.port p).forwarded = [] ∨ (s.port p).turn = .own) : chooseSource p s = some (f, .own) := by
  unfold chooseSource
  rw [howned]
  cases hqueue : (s.port p).forwarded with
  | nil => rfl
  | cons x rest =>
    rw [hqueue] at h
    obtain h | h := h
    · exact nomatch h
    · simp [h]

/-- A port whose arbiter takes frame `f` from a source, `x` the port once the frame has left it: sent where the link is UP,
discarded where it is DOWN. -/
def tookFrame (f : Frame) (src : EgressSource) (x : PortSide) : PortSide :=
  if x.link = .up then { x with turn := turnAfter src, sending := some (f, src) }
  else { x with turn := turnAfter src, egressDiscards := x.egressDiscards + 1 }

/-- What a take leaves: the port, and an origin discard for a frame of the origin queue discarded on Port F. -/
theorem sendOrDiscard_eq (p : Port) (f : Frame) (src : EgressSource) (s : State) :
    sendOrDiscard p f src (s.modPort p fun x => { x with turn := turnAfter src }) =
      if (s.port p).link ≠ .up ∧ p = .f ∧ src = .own then
        { s.modPort p (tookFrame f src) with originDiscards := s.originDiscards + 1 }
      else s.modPort p (tookFrame f src) := by
  by_cases hlink : (s.port p).link = .up <;> cases p <;> cases src <;>
    simp [sendOrDiscard, countDiscard, tookFrame, State.modPort, State.setPort, State.port] at hlink ⊢ <;> simp [hlink]

/-- Settles O7: the arbiter's choice, then the take from either source of either port, sent or discarded by the link's state. -/
theorem egressTakes : Obligations.EgressTakes := by
  intro s x hreset
  refine ⟨fun rest hfree hqueue h => ?_, fun hfree hslot h => ?_, fun rest hfree hqueue h => ?_,
    fun rest hfree hqueue h => ?_⟩
  · have htail : s.portT.forwarded.tail = rest := by rw [hqueue]; rfl
    refine congrArg _ ((takeNext_of_choice (p := .t) hreset hfree (chooseSource_forwarded hqueue h)).trans ?_)
    rw [sendOrDiscard_eq, if_neg (by simp), ← htail]
    rfl
  · refine congrArg _ ((takeNext_of_choice (p := .t) hreset hfree (chooseSource_own hslot h)).trans ?_)
    rw [sendOrDiscard_eq, if_neg (by simp)]
    rfl
  · have htail : s.portF.forwarded.tail = rest := by rw [hqueue]; rfl
    refine congrArg _ ((takeNext_of_choice (p := .f) hreset hfree (chooseSource_forwarded hqueue (h.imp_left (congrArg List.head?)))).trans ?_)
    rw [sendOrDiscard_eq, if_neg (by simp), ← htail]
    rfl
  · have htail : s.originQueue.tail = rest := by rw [hqueue]; rfl
    have howned : ownHead s .f = some x := congrArg List.head? hqueue
    refine congrArg _ ((takeNext_of_choice (p := .f) hreset hfree (chooseSource_own howned h)).trans ?_)
    rw [sendOrDiscard_eq, ← htail]
    by_cases hlink : s.portF.link = .up
    · rw [if_neg (fun hd => hd.1 hlink), if_pos hlink]
      simp [afterTake, removeTaken, tookFrame, State.modPort, State.setPort, State.port, turnAfter, hlink]
    · rw [if_pos ⟨hlink, rfl, rfl⟩, if_neg hlink]
      simp [afterTake, removeTaken, tookFrame, State.modPort, State.setPort, State.port, turnAfter, hlink]

/-- Settles O8: a transmitter that sends ends its transmission. -/
theorem transmissionEnds : Obligations.TransmissionEnds := by
  intro s x hreset
  have hend (p : Port) (h : (s.port p).sending = some x) : endTransmission p s =
      s.modPort p fun y => { y with sending := none, transmitted := y.transmitted + 1 } := by
    unfold endTransmission
    rw [if_neg (by simp [hreset]), h]
  exact ⟨fun h => congrArg _ (hend .f h), fun h => congrArg _ (hend .t h)⟩

end Sys2Proof.Machine

/-! SUPPORT. Frames: what each sort of frame brings about. -/

namespace Sys2Proof.Machine

/-! ### Reception -/

theorem counted_eq (p : Port) (s : State) : counted p s = countReceived p s := by cases p <;> rfl

theorem passed_eq (p : Port) (f : Frame) (s : State) : passed p f s = forward (oppositePort p) f s := by
  cases p
  · by_cases h : s.portT.forwarded.length < 128 <;>
      simp [passed, queuedT, forward, oppositePort, State.modPort, State.setPort, State.port, forwardedCapacity, h]
  · by_cases h : s.portF.forwarded.length < 128 <;>
      simp [passed, queuedF, forward, oppositePort, State.modPort, State.setPort, State.port, forwardedCapacity, h]

theorem queuedF_eq (f : Frame) (s : State) : queuedF f s = forward .f f s := passed_eq .t f s

theorem queuedT_eq (f : Frame) (s : State) : queuedT f s = forward .t f s := passed_eq .f f s

theorem receive_of_arrives {p : Port} {f : Frame} {d : Disposition} {s : State} (order : TurnAwayOrder)
    (h : Arrives s p f d) : receive order p f s = dispose order d p f (counted p s) := by
  obtain ⟨hreset, hsort⟩ := h
  unfold receive
  rw [if_neg (by simp [hreset]), hsort, counted_eq]

/-- Settles O10: each row that only counts and forwards, and the frame that fails its check. -/
theorem frameReceiveForwards : Obligations.FrameReceiveForwards := by
  intro p f order s
  simp only [passed_eq]
  refine ⟨fun h => ?_, fun h => ?_, fun h => ?_, fun h => ?_, fun h => ?_, fun hreset hp => ?_, fun hreset hp => ?_⟩
  · exact congrArg _ (receive_of_arrives order h)
  · exact congrArg _ ((receive_of_arrives order h).trans (by cases p <;> rfl))
  · exact congrArg _ ((receive_of_arrives order h).trans (by cases p <;> rfl))
  · exact congrArg _ ((receive_of_arrives order h).trans (by cases p <;> rfl))
  · exact congrArg _ ((receive_of_arrives order h).trans (by cases p <;> rfl))
  · subst hp
    exact congrArg Host.Outcome.next (if_neg (Bool.eq_false_iff.mp hreset) : receiveBad _ s = _)
  · subst hp
    exact congrArg Host.Outcome.next (if_neg (Bool.eq_false_iff.mp hreset) : receiveBad _ s = _)

/-! ### Admission -/

theorem exec_command_admission {f : Frame} {order : TurnAwayOrder} {s : State} (h : Arrives s .f f .admission) :
    exec (.command { frame := f, order := order }) s = .next (takeCommand order f (counted .f s)) :=
  congrArg _ (receive_of_arrives order h)

theorem takeCommand_of_none {order : TurnAwayOrder} {f : Frame} {s : State} (h : slotFor s (srcAddr f) = none) :
    takeCommand order f s = refused order .refusedUnlisted f s := by
  unfold takeCommand
  rw [h, refused_eq]

theorem takeCommand_of_some {order : TurnAwayOrder} {f : Frame} {s : State} {i : SlotId}
    (h : slotFor s (srcAddr f) = some i) : takeCommand order f s = admissionChecks order i f s := by
  unfold takeCommand
  rw [h]

/-- Past the state checks of an admission: the slot is BOUND or SUSPENDED. -/
theorem admissionChecks_of_open {order : TurnAwayOrder} {f : Frame} {s : State} {i : SlotId}
    (h : (s.slot i).state = .bound ∨ (s.slot i).state = .suspended) :
    admissionChecks order i f s =
      if keyLive s (keyOf .f f) then reportViolation i s
      else if (s.slotPolicy i).holdLimit ≤ (s.slot i).depth then turnAwayFrom order i .turnedAwayQueue f s
      else if poolRefuses s i then turnAwayFrom order i .turnedAwayFull f s
      else admitCommand i f s := by
  unfold admissionChecks
  obtain h | h := h <;> simp [h]

theorem poolRefuses_iff (s : State) (i : SlotId) :
    poolRefuses s i = true ↔
      1024 ≤ liveCount s ∨ (s.slotPolicy i).cls ≠ .feed ∧ 1024 ≤ liveCount s + s.part.feedReserve := by
  have hfree : freeCount s = 1024 - liveCount s := rfl
  simp only [poolRefuses, hfree, Bool.or_eq_true, Bool.and_eq_true, decide_eq_true_eq]
  have hpool : 1024 - liveCount s = 0 ↔ 1024 ≤ liveCount s := by omega
  have hreserve : 1024 - liveCount s ≤ s.part.feedReserve ↔ 1024 ≤ liveCount s + s.part.feedReserve := by omega
  rw [hpool, hreserve]

/-- Settles O11: the checks one after the other, each on the state in which the ones before it have passed. -/
theorem commandChecksInOrder : Obligations.CommandChecksInOrder := by
  intro f order s i harrives
  dsimp only
  rw [exec_command_admission harrives]
  refine ⟨fun hnone => congrArg _ (takeCommand_of_none hnone), fun hsome => ?_⟩
  rw [takeCommand_of_some (s := counted .f s) hsome]
  refine ⟨fun hstate => ?_, fun hstate => ?_, fun hopen => ?_⟩
  · rw [refusedFrom_eq]
    exact congrArg Host.Outcome.next (if_pos hstate)
  · have hnot : ¬ ((counted .f s).slot i).state = .quarantined := fun e => nomatch hstate.symm.trans e
    rw [refusedFrom_eq]
    exact congrArg Host.Outcome.next ((if_neg hnot).trans (if_pos hstate))
  · rw [admissionChecks_of_open (s := counted .f s) hopen, violated_eq, refusedFrom_eq, refusedFrom_eq]
    refine ⟨fun hlive => congrArg Host.Outcome.next (if_pos hlive), fun hfresh => ?_⟩
    have hnot : ¬ keyLive (counted .f s) (keyOf .f f) = true := fun e => nomatch hfresh.symm.trans e
    rw [if_neg hnot]
    refine ⟨fun hfull => congrArg Host.Outcome.next (if_pos hfull), fun hroom hpool => ?_⟩
    have hpool' : poolRefuses (counted .f s) i = true := (poolRefuses_iff (counted .f s) i).mpr hpool
    exact congrArg Host.Outcome.next ((if_neg (Nat.not_le.mpr hroom)).trans (if_pos hpool'))

theorem tallyMeter_bound {c : MeterSettings} {i : SlotId} (hc : c.binding = some i) (n : Nat) (due : List BurstReport) :
    tallyMeter c i { count := n, run := .running, due := due } =
      if n ≤ 1 then
        { count := c.threshold, run := .stopped
          due := due ++ [{ slot := i, liftAmount := c.liftAmount, liftEpochs := c.liftEpochs }] }
      else { count := n - 1, run := .running, due := due } := by
  unfold tallyMeter
  rw [if_pos ⟨hc, rfl⟩]

/-- Below the threshold each admission takes one count. -/
theorem repeat_tallyMeter {c : MeterSettings} {i : SlotId} (hc : c.binding = some i) (due : List BurstReport) (k : Nat)
    (hk : k < c.threshold) :
    Nat.repeat (tallyMeter c i) k { count := c.threshold, run := .running, due := due } =
      { count := c.threshold - k, run := .running, due := due } := by
  induction k with
  | zero => rfl
  | succ k ih =>
    show tallyMeter c i (Nat.repeat (tallyMeter c i) k _) = _
    rw [ih (by omega), tallyMeter_bound hc, if_neg (by omega)]
    rfl

/-- Settles O12: the checks passed, the record joins; and the meter counts down to the expiry. -/
theorem commandAdmitted : Obligations.CommandAdmitted := by
  refine ⟨fun f order s i op harrives hsome hopen hfresh hroom hlive hreserve hop => ?_, fun c i due hc hthreshold => ?_⟩
  · rw [exec_command_admission harrives, takeCommand_of_some (s := counted .f s) hsome,
      admissionChecks_of_open (s := counted .f s) hopen]
    have hkey : ¬ keyLive (counted .f s) (keyOf .f f) = true := fun e => nomatch hfresh.symm.trans e
    have hpool : ¬ poolRefuses (counted .f s) i = true := fun e => by
      obtain h | ⟨hcls, h⟩ := (poolRefuses_iff s i).mp e
      · omega
      · obtain h' | h' := hreserve
        · exact hcls h'
        · omega
    refine congrArg Host.Outcome.next ((if_neg hkey).trans ((if_neg (Nat.not_le.mpr hroom)).trans ((if_neg hpool).trans ?_)))
    unfold admitCommand
    have hrecord : heldRecord (counted .f s) i f =
        { ex :=
            { key := { initiator := srcAddr f, tag := tagOf f }, slot := i, gen := (s.slot i).gen, op := op
              length := word2 f, admittedEpoch := s.pace.epoch, moved := 0 }
          frame := f, promoted := false, starveNoted := false } := by
      unfold heldRecord
      rw [hop]
      rfl
    rw [hrecord, tallied_eq, tallied_eq]
    rfl
  · refine ⟨fun k hk => repeat_tallyMeter hc due k hk, ?_⟩
    obtain ⟨n, hn⟩ : ∃ n, c.threshold = n + 1 := ⟨c.threshold - 1, by omega⟩
    have hlast := repeat_tallyMeter hc due n (by omega)
    have hunfold : Nat.repeat (tallyMeter c i) c.threshold { count := c.threshold, run := .running, due := due } =
        tallyMeter c i (Nat.repeat (tallyMeter c i) n { count := c.threshold, run := .running, due := due }) := by
      conv => lhs; arg 2; rw [hn]
      rfl
    rw [hunfold, hlast, tallyMeter_bound hc, if_pos (by omega)]

/-! ### Matched frames -/

/-- Settles O14: what the Tracker notes of a READY, or nothing, and the frame forwarded to Port F. -/
theorem readyRecordsAmount : Obligations.ReadyRecordsAmount := by
  intro f s hkind
  refine ⟨fun r harrives => ?_, fun i h harrives => ?_⟩
  · refine congrArg Host.Outcome.next ((receive_of_arrives _ harrives).trans ?_)
    have htrack : trackFrame .t f r (counted .t s) = modOpen r.ex.key (takeReady (word2 f)) (counted .t s) := by
      unfold trackFrame
      rw [hkind]
      rfl
    rw [queuedF_eq]
    exact congrArg (forward .f f) htrack
  · refine congrArg Host.Outcome.next ((receive_of_arrives _ harrives).trans ?_)
    have hheld : takeHeldMatch .t f i h (counted .t s) = forward .f f (counted .t s) := by
      unfold takeHeldMatch
      rw [if_neg (by omega), if_neg (by omega)]
      rfl
    rw [queuedF_eq]
    exact hheld

/-- Settles O15: the sectors of a DATA, the overlength report, and the frame forwarded. -/
theorem dataCountsSectors : Obligations.DataCountsSectors := by
  intro p f s hkind
  refine ⟨fun r harrives => ?_, fun i h harrives => ?_⟩
  · refine congrArg Host.Outcome.next ((receive_of_arrives _ harrives).trans ?_)
    have htrack : trackFrame p f r (counted p s) = trackData p f r (counted p s) := by
      unfold trackFrame
      rw [hkind]
      rfl
    have hgen : generationTest (counted p s) r.ex = generationTest s r.ex := by cases p <;> rfl
    rw [passed_eq]
    refine congrArg (forward (oppositePort p) f) (htrack.trans ?_)
    unfold trackData
    rw [hgen, violated_eq]
    simp only [overlength, Bool.and_eq_true, decide_eq_true_eq, and_assoc]
    rfl
  · refine congrArg Host.Outcome.next ((receive_of_arrives _ harrives).trans ?_)
    have hheld : takeHeldMatch p f i h (counted p s) = forward (oppositePort p) f (counted p s) := by
      unfold takeHeldMatch
      rw [if_neg (by omega), if_neg (by omega)]
    rw [passed_eq]
    exact hheld

end Sys2Proof.Machine

/-! SUPPORT. Closes, aborts, holds and the arrival of a request. -/

namespace Sys2Proof.Machine

/-! ### Closes -/

/-- A DONE matched to a released record: the close, then the frame forwarded to Port F. -/
theorem exec_done_released {f : Frame} {r : OpenRecord} {s : State} (harrives : Arrives s .t f (.released r))
    (hkind : kindCode f = 0x04) :
    exec (.done f) s = .next (queuedF f (closeRecord r (word0 f) (word2 f) (counted .t s))) := by
  refine congrArg Host.Outcome.next ((receive_of_arrives _ harrives).trans ?_)
  have htrack : trackFrame .t f r (counted .t s) = closeRecord r (word0 f) (word2 f) (counted .t s) := by
    unfold trackFrame
    rw [hkind]
    rfl
  rw [queuedF_eq]
  exact congrArg (forward .f f) htrack

/-- A close of a record of its slot's current generation. -/
theorem closeRecord_of_current {r : OpenRecord} {s : State} (code n : Nat) (hgen : generationTest s r.ex = true) :
    closeRecord r code n s =
      (if r.state ≠ .stale ∨ 0 < refundOf s.policy.active.cost r code n then decideRelease else id)
        (freeOpen r.ex.key
          { s.modSlot r.ex.slot
              (settledSlot (s.slotPolicy r.ex.slot).cap (refundOf s.policy.active.cost r code n) n
                (decide (r.state = .stale))) with
            monitor := silentExit (accumulate n (closeLatency s.pace.time r) s.monitor) }) := by
  unfold closeRecord closeTriggers
  rw [hgen, settleSlot_eq]
  simp only [if_true, Bool.true_and, Bool.or_eq_true, decide_eq_true_eq]
  split <;> rfl

/-- A close of a record that its slot no longer owns: the refund discarded, no decision. -/
theorem closeRecord_of_stranger {r : OpenRecord} {s : State} (code n : Nat) (hgen : generationTest s r.ex = false) :
    closeRecord r code n s =
      freeOpen r.ex.key
        { discardRefund s with monitor := silentExit (accumulate n (closeLatency s.pace.time r) s.monitor) } := by
  unfold closeRecord closeTriggers
  rw [hgen]
  rfl

/-- Settles O16: the settlement of the slot written out, the report with its latency, the freeing and the decision. -/
theorem doneClosesRecord : Obligations.DoneClosesRecord := by
  intro f s r harrives hkind hstate hgen
  dsimp only
  rw [exec_done_released harrives hkind, closeRecord_of_current (s := counted .t s) _ _ hgen, if_pos (.inl hstate)]
  have hlatency : closeLatency s.pace.time r = some (s.pace.time - r.releaseStamp).toNat := if_neg hstate
  have hlatency' : closeLatency (counted .t s).pace.time r = some (s.pace.time - r.releaseStamp).toNat := hlatency
  rw [hlatency', refunded_eq, reported_eq, decide_eq_false hstate]
  rfl

/-- Settles O17: a late completion, a discarded refund, an anomaly. -/
theorem lateAndAnomalousDone : Obligations.LateAndAnomalousDone := by
  intro f s hkind
  refine ⟨fun r harrives hstate hgen => ?_, fun r harrives hgen => ?_, fun i h harrives => ?_⟩
  · dsimp only
    have hlatency : closeLatency (counted .t s).pace.time r = none := if_pos hstate
    rw [exec_done_released harrives hkind, closeRecord_of_current (s := counted .t s) _ _ hgen, hlatency, refunded_eq,
      reported_eq, decide_eq_true hstate]
    by_cases hn : 0 < refundOf s.policy.active.cost r (word0 f) (word2 f)
    · rw [if_pos hn, if_pos (.inr hn)]
      rfl
    · have hquiet : ¬ (r.state ≠ .stale ∨ 0 < refundOf (counted .t s).policy.active.cost r (word0 f) (word2 f)) :=
        not_or.mpr ⟨Classical.not_not.mpr hstate, hn⟩
      rw [if_neg hn, if_neg hquiet]
      rfl
  · rw [exec_done_released harrives hkind, closeRecord_of_stranger (s := counted .t s) _ _ hgen, reported_eq]
    rfl
  · refine congrArg Host.Outcome.next ((receive_of_arrives _ harrives).trans ?_)
    have hheld : takeHeldMatch .t f i h (counted .t s) = forward .f f (countAnomaly (counted .t s)) := by
      unfold takeHeldMatch
      rw [if_neg (by omega), if_pos hkind]
      rfl
    rw [queuedF_eq]
    exact hheld

/-! ### Aborts -/

theorem isHead_eq (k : ExchangeKey) (q : List HeldRecord) : isHead k q = decide ((q.head?.map fun x => x.ex.key) = some k) := by
  cases q with
  | nil => rfl
  | cons h q => simp [isHead]

/-- Settles O18: a released record turns ABORTING; a held one leaves its queue with its DONE. -/
theorem abortTakes : Obligations.AbortTakes := by
  intro f s hkind
  refine ⟨fun r harrives => ?_, fun i h harrives => ?_⟩
  · refine congrArg Host.Outcome.next ((receive_of_arrives _ harrives).trans ?_)
    have htrack : trackFrame .f f r (counted .f s) = modOpen r.ex.key takeAbort (counted .f s) := by
      unfold trackFrame
      rw [hkind]
      rfl
    rw [queuedT_eq]
    exact congrArg (forward .t f) htrack
  · refine congrArg Host.Outcome.next ((receive_of_arrives _ harrives).trans ?_)
    have hheld : takeHeldMatch .f f i h (counted .f s) = abortHeld i h (counted .f s) := by
      unfold takeHeldMatch
      rw [if_pos hkind]
    refine hheld.trans ?_
    unfold abortHeld
    rw [doneSent_eq, isHead_eq]
    simp only [decide_eq_true_eq]
    rfl

/-! ### Holds -/

theorem holdCountdown_eq (n : Nat) : holdCountdown n = if n = 0 then none else some (10 * n) := by
  unfold holdCountdown ticksPerMicrosecond
  rw [Nat.mul_comm]

theorem holdInForce_eq_true_iff (s : State) : holdInForce s = true ↔ s.sched.holdTicks ≠ none ∨ s.portT.link = .down := by
  simp [holdInForce, Option.isSome_iff_ne_none]

theorem holdInForce_eq_false_iff (s : State) : holdInForce s = false ↔ s.sched.holdTicks = none ∧ s.portT.link = .up := by
  have hlink : ¬ s.portT.link = .down ↔ s.portT.link = .up := by cases s.portT.link <;> simp
  simp [holdInForce, hlink]

/-- A change of the countdown ends the hold in force, and takes the decision, where it stops the countdown with the link UP. -/
theorem decideIfHoldEnded_setHoldTicks (n : Option Nat) (s : State) :
    decideIfHoldEnded s (setHoldTicks n s) =
      if n = none ∧ s.sched.holdTicks ≠ none ∧ s.portT.link = .up then decideRelease (setHoldTicks n s)
      else setHoldTicks n s := by
  have hcond : (holdInForce s && !holdInForce (setHoldTicks n s)) = true ↔
      n = none ∧ s.sched.holdTicks ≠ none ∧ s.portT.link = .up := by
    rw [Bool.and_eq_true, Bool.not_eq_true', holdInForce_eq_true_iff, holdInForce_eq_false_iff]
    show _ ∧ n = none ∧ s.portT.link = .up ↔ _
    constructor
    · rintro ⟨hticks | hdown, hn, hup⟩
      · exact ⟨hn, hticks, hup⟩
      · exact nomatch hdown.symm.trans hup
    · rintro ⟨hn, hticks, hup⟩
      exact ⟨.inl hticks, hn, hup⟩
  unfold decideIfHoldEnded
  simp only [hcond]

theorem holdDue_iff (c : Scheduler) : holdDue c = true ↔ c.holdTicks = some 0 ∨ c.holdTicks = some 1 := by
  unfold holdDue
  cases c.holdTicks with
  | none => simp
  | some n =>
    simp only [decide_eq_true_eq, Option.some.injEq]
    omega

/-- Settles O19: a HOLD sets the countdown; its end, by a HOLD or by its expiry, takes the decision with the link UP. -/
theorem holdAndCountdown : Obligations.HoldAndCountdown := by
  intro s hreset
  refine ⟨fun f harrives => ?_, fun hticks => ?_, fun h0 h1 => ?_⟩
  · refine congrArg Host.Outcome.next ((receive_of_arrives _ harrives).trans ?_)
    refine (decideIfHoldEnded_setHoldTicks (holdCountdown (word2 f))
      { counted .t s with holdConsumed := s.holdConsumed + 1 }).trans ?_
    rw [holdCountdown_eq]
    by_cases hn : word2 f = 0 <;> simp [hn] <;> rfl
  · have hdue := (holdDue_iff s.sched).mpr hticks
    have hsome : s.sched.holdTicks ≠ none := by obtain h | h := hticks <;> rw [h] <;> exact nofun
    have htake : takeHoldExpiry s = decideIfHoldEnded s (setHoldTicks none s) := if_pos ⟨hreset, hdue⟩
    refine congrArg Host.Outcome.next (htake.trans ?_)
    rw [decideIfHoldEnded_setHoldTicks]
    simp [hsome]
    rfl
  · have hdue : ¬ (s.inReset = false ∧ holdDue s.sched = true) := fun h =>
      ((holdDue_iff s.sched).mp h.2).elim h0 h1
    exact congrArg Host.Outcome.next (if_neg hdue : takeHoldExpiry s = s)

/-! ### The arrival of a request -/

/-- Settles O26: the manager list, the space, the tail of the buffer. -/
theorem mreqBuffered : Obligations.MreqBuffered := by
  intro f s harrives
  have hexec : exec (.mreqArrival f) s = .next (bufferRequest f (counted .f s)) :=
    congrArg Host.Outcome.next (receive_of_arrives _ harrives)
  rw [hexec]
  refine ⟨fun hlist hmember => ?_, fun hlisted => ⟨fun hfull => ?_, fun hspace => ?_⟩⟩
  · exact congrArg Host.Outcome.next (if_pos ⟨hlist, hmember⟩)
  · have hlisted' : ¬ (s.agent.managers ≠ [] ∧ srcAddr f ∉ s.agent.managers) := fun h => hlisted.elim h.1 h.2
    exact congrArg Host.Outcome.next ((if_neg hlisted').trans (if_pos hfull))
  · have hlisted' : ¬ (s.agent.managers ≠ [] ∧ srcAddr f ∉ s.agent.managers) := fun h => hlisted.elim h.1 h.2
    exact congrArg Host.Outcome.next ((if_neg hlisted').trans (if_neg (Nat.not_le.mpr hspace)))

end Sys2Proof.Machine

/-! SUPPORT. The Frame Sorter's table: EtherType, header check, and the lookup of a key among unique ones (R5 to R10). -/

namespace Sys2Proof.Machine

/-! ### EtherType and header check -/

/-- A frame holds a VLAN tag (R5). -/
abbrev Tagged (f : Frame) : Prop := f.rest.take 2 = [0x81#8, 0x00#8] ∧ 4 ≤ f.rest.length

theorem vlanTag_isSome (f : Frame) : (vlanTag f).isSome = decide (Tagged f) := by
  unfold vlanTag
  split
  · next h => simp [h]
  · next h => simp [h]

theorem afterTag_eq (f : Frame) : afterTag f = if Tagged f then f.rest.drop 4 else f.rest := by
  unfold afterTag vlanTag
  by_cases h : Tagged f
  · rw [if_pos h, if_pos h]
  · rw [if_neg h, if_neg h]

/-- The first two bytes of a list are those of a number of 16 bits. -/
theorem take_two_eq_iff (l : List Byte) (t : BitVec 16) :
    l.take 2 = beBytes 2 t.toNat ↔ 2 ≤ l.length ∧ BitVec.ofNat 16 (beNat l 0 2) = t := by
  have hlt := t.isLt
  match l with
  | [] => simp [beBytes]
  | [a] => simp [beBytes]
  | a :: b :: rest =>
    have ha := a.isLt
    have hb := b.isLt
    have hnum : beNat (a :: b :: rest) 0 2 = a.toNat * 256 + b.toNat := by simp [beNat]
    rw [hnum]
    simp only [List.take, beBytes, List.cons.injEq, and_true, List.length_cons, BitVec.toNat_eq, BitVec.toNat_ofNat]
    omega

theorem etherType_eq_iff (f : Frame) (t : BitVec 16) :
    etherType f = some t ↔ (afterTag f).take 2 = beBytes 2 t.toNat := by
  rw [take_two_eq_iff]
  unfold etherType
  split
  · next h => simp [h]
  · next h => simp [h]

theorem isTransport_iff (t : BitVec 16) (f : Frame) :
    isTransport t f = true ↔ (afterTag f).take 2 = beBytes 2 t.toNat ∧ ¬ (Tagged f ∧ t = 0x8100#16) := by
  unfold isTransport
  rw [vlanTag_isSome, ← etherType_eq_iff]
  simp only [Bool.and_eq_true, decide_eq_true_eq, Bool.not_eq_true', Bool.and_eq_false_iff, decide_eq_false_iff_not]
  constructor
  · rintro ⟨htype, hother⟩
    rw [htype] at hother
    simp only [Option.some.injEq] at hother
    exact ⟨htype, fun h => hother.elim (fun hn => hn h.1) (fun hn => hn h.2)⟩
  · rintro ⟨htype, hother⟩
    rw [htype]
    simp only [Option.some.injEq, true_and]
    exact Classical.not_and_iff_not_or_not.mp hother

/-- A COMMAND's operation and length (R6). -/
theorem commandFieldsOk_iff (f : Frame) :
    commandFieldsOk f = true ↔
      (word0 f ∈ [1, 2] ∧ 1 ≤ word2 f ∧ word2 f ≤ 2048) ∨ (word0 f ∈ [3, 4] ∧ word2 f = 0) := by
  unfold commandFieldsOk
  rcases h : opOfCode (word0 f) with _ | op
  · have hcode : word0 f ≠ 1 ∧ word0 f ≠ 2 ∧ word0 f ≠ 3 ∧ word0 f ≠ 4 := by
      unfold opOfCode at h
      split at h <;> simp_all
    simp [hcode]
  · have hcode : word0 f = 1 ∧ op = .read ∨ word0 f = 2 ∧ op = .write ∨ word0 f = 3 ∧ op = .flush ∨
        word0 f = 4 ∧ op = .admin := by
      unfold opOfCode at h
      split at h <;> simp_all
    obtain ⟨hw, rfl⟩ | ⟨hw, rfl⟩ | ⟨hw, rfl⟩ | ⟨hw, rfl⟩ := hcode <;> simp [hw]

theorem bodyFits_iff (f : Frame) (h : 16 ≤ (payload f).length) :
    bodyFits f = true ↔
      (payload f).length = 16 + bodyLength f ∨ ((payload f).length = 46 ∧ 16 + bodyLength f ≤ 46) := by
  simp only [bodyFits, Bool.or_eq_true, decide_eq_true_eq]
  omega

theorem headerOk_iff (f : Frame) :
    headerOk f = true ↔
      16 ≤ (payload f).length ∧ version f = 1 ∧ bodyLength f ≤ (if kindCode f = 0x03 then 9000 else 1024) ∧
        ((payload f).length = 16 + bodyLength f ∨ ((payload f).length = 46 ∧ 16 + bodyLength f ≤ 46)) ∧
        (kindCode f = 0x01 →
          (word0 f ∈ [1, 2] ∧ 1 ≤ word2 f ∧ word2 f ≤ 2048) ∨ (word0 f ∈ [3, 4] ∧ word2 f = 0)) := by
  rw [← commandFieldsOk_iff]
  simp only [headerOk, Bool.and_eq_true, Bool.or_eq_true, decide_eq_true_eq, and_assoc]
  refine and_congr_right fun hlen => ?_
  rw [bodyFits_iff f hlen, Decidable.imp_iff_not_or (a := kindCode f = 0x01)]
  rfl

/-! ### Lookups among unique keys -/

/-- A list without repeated keys has one element of a key. -/
theorem eq_of_nodup_map {α β : Type} {f : α → β} {l : List α} (hl : (l.map f).Nodup) {a b : α} (ha : a ∈ l) (hb : b ∈ l)
    (hab : f a = f b) : a = b := by
  induction l with
  | nil => exact absurd ha List.not_mem_nil
  | cons c rest ih =>
    rw [List.map_cons] at hl
    obtain ⟨hc, hrest⟩ := List.nodup_cons.mp hl
    obtain rfl | hrestA := List.mem_cons.mp ha
    · obtain rfl | hrestB := List.mem_cons.mp hb
      · rfl
      · exact absurd (List.mem_map.mpr ⟨b, hrestB, hab.symm⟩) hc
    · obtain rfl | hrestB := List.mem_cons.mp hb
      · exact absurd (List.mem_map.mpr ⟨a, hrestA, hab⟩) hc
      · exact ih hrest hrestA hrestB

/-- Lists joined without repetition: each has none, and two of them share nothing. -/
theorem nodup_of_flatMap {α β : Type} {f : α → List β} {l : List α} (hl : (l.flatMap f).Nodup) {a : α} (ha : a ∈ l) :
    (f a).Nodup ∧ ∀ b ∈ l, ∀ x ∈ f a, x ∈ f b → a = b := by
  induction l with
  | nil => exact absurd ha List.not_mem_nil
  | cons c rest ih =>
    rw [List.flatMap_cons] at hl
    obtain ⟨hc, hrest, hdisjoint⟩ := List.nodup_append.mp hl
    have hapart {d : α} (hd : d ∈ rest) {x : β} (hx : x ∈ f c) (hx' : x ∈ f d) : False :=
      hdisjoint x hx x (List.mem_flatMap.mpr ⟨d, hd, hx'⟩) rfl
    obtain rfl | hrestA := List.mem_cons.mp ha
    · refine ⟨hc, fun b hb x hx hx' => ?_⟩
      obtain rfl | hrestB := List.mem_cons.mp hb
      · rfl
      · exact (hapart hrestB hx hx').elim
    · refine ⟨(ih hrest hrestA).1, fun b hb x hx hx' => ?_⟩
      obtain rfl | hrestB := List.mem_cons.mp hb
      · exact (hapart hrestA hx' hx).elim
      · exact (ih hrest hrestA).2 b hrestB x hx hx'

/-- Held records of one key lie in one slot. -/
theorem slot_eq_of_key_eq {s : State} {i j : SlotId} {h g : HeldRecord} (hs : KeysUnique s) (hh : h ∈ (s.slot i).queue)
    (hg : g ∈ (s.slot j).queue) (hkey : h.ex.key = g.ex.key) : i = j :=
  (nodup_of_flatMap (List.nodup_append.mp hs).1 (List.mem_finRange i)).2 j (List.mem_finRange j) _
    (List.mem_map_of_mem hh) (List.mem_map.mpr ⟨g, hg, hkey.symm⟩)

/-- Held records of one key in one queue are one. -/
theorem held_eq_of_key_eq {s : State} {i : SlotId} {h g : HeldRecord} (hs : KeysUnique s) (hh : h ∈ (s.slot i).queue)
    (hg : g ∈ (s.slot i).queue) (hkey : h.ex.key = g.ex.key) : h = g :=
  eq_of_nodup_map (nodup_of_flatMap (List.nodup_append.mp hs).1 (List.mem_finRange i)).1 hh hg hkey

/-- Released records of one key are one. -/
theorem released_eq_of_key_eq {s : State} {r q : OpenRecord} (hs : KeysUnique s) (hr : r ∈ s.tracker.released)
    (hq : q ∈ s.tracker.released) (hkey : r.ex.key = q.ex.key) : r = q :=
  eq_of_nodup_map (List.nodup_append.mp hs).2.1 hr hq hkey

/-- No released record has a held record's key. -/
theorem key_ne_of_held_released {s : State} {i : SlotId} {h : HeldRecord} {r : OpenRecord} (hs : KeysUnique s)
    (hh : h ∈ (s.slot i).queue) (hr : r ∈ s.tracker.released) : h.ex.key ≠ r.ex.key :=
  (List.nodup_append.mp hs).2.2 _ (List.mem_flatMap.mpr ⟨i, List.mem_finRange i, List.mem_map_of_mem hh⟩) _
    (List.mem_map_of_mem hr)

theorem held_of_heldSlot {s : State} {k : ExchangeKey} {i : SlotId} (h : heldSlot s k = some i) :
    ∃ g ∈ (s.slot i).queue, g.ex.key = k := by
  have hany := List.find?_some (p := fun i => (s.slot i).queue.any fun g => decide (g.ex.key = k)) h
  obtain ⟨g, hg, hkey⟩ := List.any_eq_true.mp hany
  exact ⟨g, hg, of_decide_eq_true hkey⟩

theorem key_of_findHeld {k : ExchangeKey} {q : List HeldRecord} {g : HeldRecord} (h : findHeld k q = some g) :
    g.ex.key = k :=
  of_decide_eq_true (List.find?_some (p := fun g : HeldRecord => decide (g.ex.key = k)) h)

theorem key_of_openRecord {s : State} {k : ExchangeKey} {r : OpenRecord} (h : openRecord s k = some r) : r.ex.key = k :=
  of_decide_eq_true (List.find?_some (p := fun r : OpenRecord => decide (r.ex.key = k)) h)

theorem heldSlot_eq_none {s : State} {k : ExchangeKey} (h : ∀ i, ∀ g ∈ (s.slot i).queue, g.ex.key ≠ k) : heldSlot s k = none := by
  simpa [heldSlot, List.find?_eq_none] using fun i _ g hg => h i g hg

theorem heldSlot_eq_some {s : State} {i : SlotId} {h : HeldRecord} (hs : KeysUnique s) (hh : h ∈ (s.slot i).queue) :
    heldSlot s h.ex.key = some i := by
  cases hfound : heldSlot s h.ex.key with
  | none =>
    have hnone := List.find?_eq_none.mp hfound i (List.mem_finRange i)
    exact absurd (List.any_eq_true.mpr ⟨h, hh, decide_eq_true rfl⟩) hnone
  | some j =>
    obtain ⟨g, hg, hkey⟩ := held_of_heldSlot hfound
    exact congrArg some (slot_eq_of_key_eq hs hg hh hkey)

theorem findHeld_eq_some {s : State} {i : SlotId} {h : HeldRecord} (hs : KeysUnique s) (hh : h ∈ (s.slot i).queue) :
    findHeld h.ex.key (s.slot i).queue = some h := by
  cases hfound : findHeld h.ex.key (s.slot i).queue with
  | none => exact absurd (decide_eq_true rfl) (List.find?_eq_none.mp hfound h hh)
  | some g => exact congrArg some (held_eq_of_key_eq hs (mem_of_findHeld hfound) hh (key_of_findHeld hfound))

theorem openRecord_eq_some {s : State} {r : OpenRecord} (hs : KeysUnique s) (hr : r ∈ s.tracker.released) :
    openRecord s r.ex.key = some r := by
  cases hfound : openRecord s r.ex.key with
  | none => exact absurd (decide_eq_true rfl) (List.find?_eq_none.mp hfound r hr)
  | some q => exact congrArg some (released_eq_of_key_eq hs (mem_of_openRecord hfound) hr (key_of_openRecord hfound))

theorem lookupRecord_held {s : State} {i : SlotId} {h : HeldRecord} (hs : KeysUnique s) (hh : h ∈ (s.slot i).queue) :
    lookupRecord s h.ex.key = .held i h := by
  unfold lookupRecord
  rw [heldSlot_eq_some hs hh]
  dsimp only
  rw [findHeld_eq_some hs hh]

theorem lookupRecord_released {s : State} {r : OpenRecord} (hs : KeysUnique s) (hr : r ∈ s.tracker.released) :
    lookupRecord s r.ex.key = .released r := by
  unfold lookupRecord
  rw [heldSlot_eq_none fun _ _ hg => key_ne_of_held_released hs hg hr]
  dsimp only
  rw [openRecord_eq_some hs hr]

theorem lookupRecord_unmatched {s : State} {k : ExchangeKey} (h : k ∉ liveKeys s) : lookupRecord s k = .unmatched := by
  have hheld : heldSlot s k = none := heldSlot_eq_none fun i g hg hkey =>
    h (List.mem_append_left _ (List.mem_flatMap.mpr ⟨i, List.mem_finRange i, List.mem_map.mpr ⟨g, hg, hkey⟩⟩))
  have hopen : openRecord s k = none := List.find?_eq_none.mpr fun r hr hkey =>
    h (List.mem_append_right _ (List.mem_map.mpr ⟨r, hr, of_decide_eq_true hkey⟩))
  unfold lookupRecord
  rw [hheld]
  dsimp only
  rw [hopen]

/-! ### The table -/

theorem classify_transport {p : Port} {f : Frame} {s : State} (htype : isTransport s.transportType f = true)
    (hheader : headerOk f = true) : classify p f s = classifyTransport p f s := by
  unfold classify
  rw [if_pos htype, if_pos hheader]

theorem forTarget_iff (s : State) (f : Frame) : forTarget s f = true ↔ s.part.target = none ∨ s.part.target = some (dstAddr f) := by
  unfold forTarget
  cases s.part.target <;> simp

/-- A kind that is looked up, in the direction in which it is. -/
theorem classifyTransport_lookup {p : Port} {f : Frame} {s : State}
    (h : kindCode f = 0x03 ∨ (p = .t ∧ (kindCode f = 0x02 ∨ kindCode f = 0x04)) ∨ (p = .f ∧ kindCode f = 0x05)) :
    classifyTransport p f s = lookupRecord s (keyOf p f) := by
  unfold classifyTransport
  obtain h | ⟨rfl, h | h⟩ | ⟨rfl, h⟩ := h <;> rw [h] <;> rfl

theorem keyOf_eq (p : Port) (f : Frame) :
    keyOf p f = { initiator := if p = .f then srcAddr f else dstAddr f, tag := tagOf f } := by
  cases p <;> rfl

/-- Settles O9: the two checks spelled out, then a row for each kind and port. -/
theorem sorterTable : Obligations.SorterTable := by
  intro p f s
  dsimp only
  rw [← afterTag_eq, ← keyOf_eq]
  refine ⟨isTransport_iff _ _, headerOk_iff f, fun hplain => ?_, fun htype hbad => ?_, fun htype hheader => ?_⟩
  · unfold classify
    rw [hplain]
    rfl
  · unfold classify
    rw [htype, hbad]
    rfl
  · rw [classify_transport htype hheader]
    refine ⟨fun hkind hp htarget => ?_, fun hkind hp hany hother => ?_, fun hkind hp => ?_, fun hkind hp => ?_,
      fun hkind hp => ?_, fun hs hlookup => ?_, fun hkind hp => ?_, fun hkind hp => ?_, fun hkind haddr => ?_,
      fun hkind haddr => ?_, fun hother => ?_⟩
    · subst hp
      unfold classifyTransport
      rw [hkind]
      exact if_pos ((forTarget_iff s f).mpr htarget)
    · subst hp
      unfold classifyTransport
      rw [hkind]
      exact if_neg fun h => ((forTarget_iff s f).mp h).elim hany hother
    · subst hp
      unfold classifyTransport
      rw [hkind]
      rfl
    · subst hp
      unfold classifyTransport
      obtain hkind | hkind := hkind <;> rw [hkind] <;> rfl
    · subst hp
      unfold classifyTransport
      rw [hkind]
      rfl
    · rw [classifyTransport_lookup hlookup]
      exact ⟨fun i h hh hkey => hkey ▸ lookupRecord_held hs hh, fun r hr hkey => hkey ▸ lookupRecord_released hs hr,
        lookupRecord_unmatched⟩
    · subst hp
      unfold classifyTransport
      rw [hkind]
      rfl
    · subst hp
      unfold classifyTransport
      rw [hkind]
      rfl
    · unfold classifyTransport
      rw [hkind]
      cases p <;> exact if_pos haddr
    · unfold classifyTransport
      rw [hkind]
      cases p <;> exact if_neg haddr
    · simp only [List.mem_cons, List.not_mem_nil, or_false, not_or] at hother
      obtain ⟨h1, h2, h3, h4, h5, h6, h16⟩ := hother
      unfold classifyTransport
      split <;> simp_all

end Sys2Proof.Machine

/-! SUPPORT. The release decision: the order of choice, pass by pass, class by class, ring by ring (R70, R71). -/

namespace Sys2Proof.Machine

/-! ### A ring -/

/-- The distance from a ring pointer, counted from the slot after it. -/
def distanceFrom (pointer i : SlotId) : Nat := (i.val + 127 - pointer.val) % 128

theorem distanceFrom_ringOrder (pointer k : SlotId) : distanceFrom pointer (pointer + 1 + k) = k.val := by
  have hp := pointer.isLt
  have hk := k.isLt
  simp only [distanceFrom, Fin.val_add, Fin.val_one]
  omega

/-- The search order of a ring is that of the distance from its pointer. -/
theorem ringOrder_pairwise (pointer : SlotId) :
    (ringOrder pointer).Pairwise fun i j => distanceFrom pointer i < distanceFrom pointer j := by
  rw [ringOrder, List.pairwise_map]
  refine (List.pairwise_lt_finRange 128).imp fun {k l} hlt => ?_
  rw [distanceFrom_ringOrder, distanceFrom_ringOrder]
  exact hlt

theorem slotId_add_sub (q i : SlotId) : q + (i - q) = i := by
  have hq := q.isLt
  have hi := i.isLt
  refine Fin.ext ?_
  rw [Fin.val_add, Fin.val_sub]
  omega

theorem mem_ringOrder (pointer i : SlotId) : i ∈ ringOrder pointer :=
  List.mem_map.mpr ⟨i - (pointer + 1), List.mem_finRange _, slotId_add_sub _ _⟩

theorem firstInClass_eq_none {s : State} {test : SlotId → Bool} {k : SlotClass} (h : firstInClass s test k = none)
    {j : SlotId} (hclass : (s.slotPolicy j).cls = k) : test j = false := by
  have hj := List.find?_eq_none.mp h j (mem_ringOrder _ _)
  simpa [hclass] using hj

/-- The slot found in a class passes the test, and every other slot of the class that does lies further from the pointer. -/
theorem firstInClass_eq_some {s : State} {test : SlotId → Bool} {k : SlotClass} {i : SlotId}
    (h : firstInClass s test k = some i) :
    (s.slotPolicy i).cls = k ∧ test i = true ∧ ∀ j, j ≠ i → (s.slotPolicy j).cls = k → test j = true →
      distanceFrom (ringPointer s.sched k) i < distanceFrom (ringPointer s.sched k) j := by
  obtain ⟨hi, before, after, hsplit, hbefore⟩ := List.find?_eq_some_iff_append.mp h
  simp only [Bool.and_eq_true, decide_eq_true_eq] at hi
  refine ⟨hi.1, hi.2, fun j hne hclass htest => ?_⟩
  have hmem := mem_ringOrder (ringPointer s.sched k) j
  have hsorted := ringOrder_pairwise (ringPointer s.sched k)
  rw [hsplit] at hmem hsorted
  have hafter : j ∈ after := by
    obtain hj | hj := List.mem_append.mp hmem
    · have := hbefore j hj
      simp [hclass, htest] at this
    · exact (List.mem_cons.mp hj).resolve_left hne
  exact (List.pairwise_cons.mp (List.pairwise_append.mp hsorted).2.1).1 j hafter

/-! ### A pass -/

/-- One pass over the four classes. -/
def passOf (s : State) (test : SlotId → Bool) : Option SlotId := classOrder.findSome? (firstInClass s test)

/-- Slot `i` comes before slot `j` in one pass: by class, then by distance from the class's ring pointer. -/
def RankedBefore (s : State) (i j : SlotId) : Prop :=
  classRank (s.slotPolicy i).cls < classRank (s.slotPolicy j).cls ∨
    ((s.slotPolicy i).cls = (s.slotPolicy j).cls ∧ ringDistance s i < ringDistance s j)

theorem mem_classOrder (k : SlotClass) : k ∈ classOrder := by cases k <;> decide

theorem classOrder_pairwise : classOrder.Pairwise fun k l => classRank k < classRank l := by decide

theorem pointerOf_eq (s : State) (i : SlotId) : pointerOf s i = ringPointer s.sched (s.slotPolicy i).cls := by
  unfold pointerOf ringPointer
  cases (s.slotPolicy i).cls <;> rfl

theorem ringDistance_eq (s : State) (i : SlotId) :
    ringDistance s i = distanceFrom (ringPointer s.sched (s.slotPolicy i).cls) i := by
  unfold ringDistance distanceFrom
  rw [pointerOf_eq]

theorem passOf_eq_none {s : State} {test : SlotId → Bool} (h : passOf s test = none) (j : SlotId) : test j = false :=
  firstInClass_eq_none (List.findSome?_eq_none_iff.mp h _ (mem_classOrder _)) rfl

/-- The slot a pass finds passes the test and comes before every other slot that does. -/
theorem passOf_eq_some {s : State} {test : SlotId → Bool} {i : SlotId} (h : passOf s test = some i) :
    test i = true ∧ ∀ j, j ≠ i → test j = true → RankedBefore s i j := by
  obtain ⟨before, k, after, hsplit, hfound, hbefore⟩ := List.findSome?_eq_some_iff.mp h
  obtain ⟨hclass, htest, hring⟩ := firstInClass_eq_some hfound
  refine ⟨htest, fun j hne hj => ?_⟩
  have hmem := mem_classOrder (s.slotPolicy j).cls
  have hsorted := classOrder_pairwise
  rw [hsplit] at hmem hsorted
  obtain hj' | hj' := List.mem_append.mp hmem
  · exact absurd hj (by simp [firstInClass_eq_none (hbefore _ hj') rfl])
  · obtain hj' | hj' := List.mem_cons.mp hj'
    · refine .inr ⟨hclass.trans hj'.symm, ?_⟩
      rw [ringDistance_eq, ringDistance_eq, hclass, hj']
      exact hring j hne hj' hj
    · exact .inl (hclass ▸ (List.pairwise_cons.mp (List.pairwise_append.mp hsorted).2.1).1 _ hj')

/-! ### The decision -/

theorem slotEligible_eq_true_iff (s : State) (i : SlotId) : slotEligible s i = true ↔ ∃ h, Eligible s i h := by
  unfold slotEligible headOf
  simp only [eligible_iff]
  cases (s.slot i).queue.head? <;> simp

theorem headPromoted_of_head {s : State} {i : SlotId} {h : HeldRecord} (hh : headOf s i = some h) :
    headPromoted s i = h.promoted := by
  unfold headPromoted
  rw [hh]

theorem chooseHead_eq (s : State) :
    chooseHead s =
      match passOf s fun i => slotEligible s i && headPromoted s i with
      | some i => some i
      | none => passOf s (slotEligible s) := rfl

theorem chooseHead_eq_none {s : State} (h : chooseHead s = none) (i : SlotId) (r : HeldRecord) : ¬ Eligible s i r := by
  intro he
  rw [chooseHead_eq] at h
  split at h
  · exact nomatch h
  · have := passOf_eq_none h i
    rw [(slotEligible_eq_true_iff s i).mpr ⟨r, he⟩] at this
    exact nomatch this

/-- The chosen slot has an eligible head, chosen before every other eligible head. -/
theorem chooseHead_eq_some {s : State} {i : SlotId} (h : chooseHead s = some i) :
    ∃ r, Eligible s i r ∧ ∀ j g, j ≠ i → Eligible s j g → ChosenBefore s i r j g := by
  obtain ⟨r, hr⟩ := (slotEligible_eq_true_iff s i).mp (chooseHead_eligible s i h)
  refine ⟨r, hr, fun j g hne hg => ?_⟩
  have hpromoted : headPromoted s i = r.promoted := headPromoted_of_head hr.1
  have hpromoted' : headPromoted s j = g.promoted := headPromoted_of_head hg.1
  have heligible := (slotEligible_eq_true_iff s j).mpr ⟨g, hg⟩
  rw [chooseHead_eq] at h
  split at h
  · next j' hpass =>
    obtain rfl := Option.some.inj h
    obtain ⟨htest, hbefore⟩ := passOf_eq_some hpass
    rw [Bool.and_eq_true, hpromoted] at htest
    cases hgp : g.promoted with
    | false => exact .inl ⟨htest.2, hgp⟩
    | true => exact .inr ⟨htest.2.trans hgp.symm, hbefore j hne (by rw [heligible, hpromoted', hgp]; rfl)⟩
  · next hpass =>
    have hplain (k : SlotId) (q : HeldRecord) (hq : Eligible s k q) : q.promoted = false := by
      have := passOf_eq_none hpass k
      rw [(slotEligible_eq_true_iff s k).mpr ⟨q, hq⟩, headPromoted_of_head hq.1] at this
      exact this
    exact .inr ⟨(hplain i r hr).trans (hplain j g hg).symm, (passOf_eq_some h).2 j hne heligible⟩

theorem decideRelease_of_occupied {s : State} (h : s.releaseSlot ≠ none) : decideRelease s = s :=
  if_pos (Option.isSome_iff_ne_none.mpr h)

theorem decideRelease_of_free {s : State} (h : s.releaseSlot = none) :
    decideRelease s =
      match chooseHead s with
      | none => s
      | some i =>
        match headOf s i with
        | none => s
        | some r => releaseHead i r s := by
  unfold decideRelease
  rw [h]
  rfl

/-- Settles O13: with the release slot empty the decision is the arbiter's choice, which is the first in the order of choice. -/
theorem releaseDecision : Obligations.ReleaseDecision := by
  intro s
  refine ⟨decideRelease_of_occupied, fun hfree hnone => ?_, fun hfree ⟨i₀, r₀, h₀⟩ => ?_⟩
  · rw [decideRelease_of_free hfree]
    cases hchoice : chooseHead s with
    | none => rfl
    | some i =>
      obtain ⟨r, hr, -⟩ := chooseHead_eq_some hchoice
      exact absurd hr (hnone i r)
  · rw [decideRelease_of_free hfree]
    cases hchoice : chooseHead s with
    | none => exact absurd h₀ (chooseHead_eq_none hchoice i₀ r₀)
    | some i =>
      obtain ⟨r, hr, hbefore⟩ := chooseHead_eq_some hchoice
      have hhead : headOf s i = some r := hr.1
      refine ⟨i, r, hr, hbefore, ?_⟩
      dsimp only
      rw [hhead, releasedFrom_eq]

end Sys2Proof.Machine

/-! SUPPORT. Requests: the frame checks, the snapshot reads and the Policy Stage's requests (R150 to R154, R163, R164). -/

namespace Sys2Proof.Machine

/-! ### The taking of a request -/

theorem takeRequest_oldest {s : State} {req : Frame} {code : Nat} (accepts : Frame → Bool)
    (serve : Frame → State → State × Reply) (h : Oldest s req code) (haccepts : accepts req = true) :
    takeRequest accepts serve s = answer req (serve req s) := by
  obtain ⟨hreset, hwaiting, hdue, hhead, -⟩ := h
  exact takeRequest_taken accepts serve s req hreset hwaiting hdue hhead haccepts

theorem kindIs_of_oldest {s : State} {req : Frame} {code : Nat} (h : Oldest s req code) : kindIs code req = true :=
  decide_eq_true h.2.2.2.2

/-- Past the frame checks the request of a kind goes to its handler, whatever narrows the kind further. -/
theorem takeRequest_sound {s : State} {req : Frame} {code size : Nat} (accepts : Frame → Bool)
    (handle : List Byte → State → State × Reply) (h : Sound s req code size) (haccepts : accepts req = true) :
    takeRequest accepts (serveSized size handle) s = answer req (handle (body req) s) := by
  obtain ⟨holdest, hcrc, hlength⟩ := h
  rw [takeRequest_oldest accepts _ holdest haccepts, serveSized_handled size handle req s hcrc hlength]

/-- Settles O27: a waiting response is placed as its completion says, or goes on waiting. -/
theorem waitingResponsePlaced : Obligations.WaitingResponsePlaced := by
  intro s w hreset hwaiting
  have hretry : retryResponse s = if originHasSpace s then completeRequest w.completion (pushOrigin w.frame s) else s := by
    unfold retryResponse
    rw [if_neg (Bool.eq_false_iff.mp hreset), hwaiting]
  refine ⟨fun hfull => ?_, fun hspace => ⟨completeRequest w.completion (pushOrigin w.frame s), ?_, ?_, ?_, ?_, ?_, ?_, ?_, ?_⟩⟩
  · have hfull' : ¬ originHasSpace s = true := fun h => Nat.not_le.mpr (of_decide_eq_true h) hfull
    exact congrArg Host.Outcome.next (hretry.trans (if_neg hfull'))
  · exact congrArg Host.Outcome.next (hretry.trans (if_pos (decide_eq_true hspace)))
  · cases w.completion <;> rfl
  · cases w.completion <;> rfl
  · cases w.completion <;> rfl
  · intro h; rw [h]; rfl
  · intro a h; rw [h]; rfl
  · intro x h; rw [h]; rfl
  · cases w.completion <;> rfl

/-- Settles O28: the CRC, then the kind. -/
theorem unknownKindAnswered : Obligations.UnknownKindAnswered := by
  intro s req code h hcode
  have haccepts : kindUnknown req = true := decide_eq_true (h.2.2.2.2 ▸ hcode)
  refine congrArg Host.Outcome.next ((takeRequest_oldest kindUnknown serveUnknown h haccepts).trans ?_)
  unfold serveUnknown
  split
  · exact answer_plain req .corrupt 0 [] s
  · exact answer_plain req .unknownKind 0 [] s

/-! ### Frame checks -/

/-- The frame checks of a command that takes requests of one kind with fields of fixed size. -/
def ChecksFrames (c : Instr) (code size : Nat) : Prop :=
  ∀ (s : State) (req : Frame), Oldest s req code →
    (requestCorrupt req = true → exec c s = .next (respond req .corrupt 0 [] s)) ∧
    (requestCorrupt req = false → bodyLength req ≠ size + 2 → exec c s = .next (respond req .badField size [] s))

theorem serveSized_corrupt {size : Nat} (handle : List Byte → State → State × Reply) {req : Frame} (s : State)
    (h : requestCorrupt req = true) : serveSized size handle req s = refuse .corrupt s := if_pos h

theorem serveSized_badLength {size : Nat} (handle : List Byte → State → State × Reply) {req : Frame} (s : State)
    (h : requestCorrupt req = false) (hlength : bodyLength req ≠ size + 2) :
    serveSized size handle req s = (s, replyBadField size) :=
  (if_neg (Bool.eq_false_iff.mp h)).trans (if_pos hlength)

/-- The checks come before what narrows a kind further, which a frame that fails them always passes. -/
theorem checksFrames_takeRequest {c : Instr} {code size : Nat} {accepts : Frame → Bool}
    {handle : List Byte → State → State × Reply}
    (hexec : ∀ s, exec c s = .next (takeRequest accepts (serveSized size handle) s))
    (haccepts : ∀ req, requestKind req = code → requestCorrupt req = true ∨ bodyLength req ≠ size + 2 → accepts req = true) :
    ChecksFrames c code size := by
  intro s req h
  have hkind := h.2.2.2.2
  rw [hexec]
  refine ⟨fun hcorrupt => ?_, fun hsound hlength => ?_⟩
  · rw [takeRequest_oldest accepts _ h (haccepts req hkind (.inl hcorrupt)), serveSized_corrupt handle s hcorrupt]
    exact congrArg _ (answer_plain req .corrupt 0 [] s)
  · rw [takeRequest_oldest accepts _ h (haccepts req hkind (.inr hlength)), serveSized_badLength handle s hsound hlength]
    exact congrArg _ (answer_plain req .badField size [] s)

theorem checksFrames_takeKind {c : Instr} {code size : Nat} (handle : List Byte → State → State × Reply)
    (hexec : ∀ s, exec c s = .next (takeKind code size handle s)) : ChecksFrames c code size :=
  checksFrames_takeRequest hexec fun _ hkind _ => decide_eq_true hkind

theorem checksFrames_calibrate : ChecksFrames .calibrate 0x52 3 :=
  checksFrames_takeRequest (fun _ => rfl) fun req hkind hbad => by
    have hcancels : cancels req = false := by
      obtain h | h := hbad
      · simp [cancels, h]
      · simp [cancels, h]
    rw [hcancels, kindIs, decide_eq_true hkind]
    rfl

theorem checksFrames_resetPartFull : ChecksFrames .resetPartFull 0x7F 1 :=
  checksFrames_takeRequest (fun _ => rfl) fun req hkind hbad => by
    have htraffic : resetsTraffic req = false := by
      obtain h | h := hbad
      · simp [resetsTraffic, h]
      · simp [resetsTraffic, h]
    rw [htraffic, kindIs, decide_eq_true hkind]
    rfl

/-- Settles O29: row by row, the command takes the kind's requests with the kind's size. -/
theorem frameChecksFirst : Obligations.FrameChecksFirst := by
  have hrows : ∀ x ∈ sizedRequests, ChecksFrames x.1 x.2.1 x.2.2 := by
    simp only [sizedRequests, List.forall_mem_cons]
    exact ⟨checksFrames_takeKind queryPart fun _ => rfl, checksFrames_takeKind stageSlot fun _ => rfl,
      checksFrames_takeKind stagePart fun _ => rfl, checksFrames_takeKind stageCost fun _ => rfl,
      checksFrames_takeKind stageClass fun _ => rfl, checksFrames_takeKind stageProfile fun _ => rfl,
      checksFrames_takeKind stageTracker fun _ => rfl, checksFrames_takeKind stagePace fun _ => rfl,
      checksFrames_takeKind stageSpool fun _ => rfl, checksFrames_takeKind stageNotice fun _ => rfl,
      checksFrames_takeKind commit fun _ => rfl, checksFrames_takeKind discard fun _ => rfl,
      checksFrames_takeKind readStageDigest fun _ => rfl, checksFrames_takeKind bindRequest fun _ => rfl,
      checksFrames_takeKind unbindRequest fun _ => rfl, checksFrames_takeKind suspendRequest fun _ => rfl,
      checksFrames_takeKind resumeRequest fun _ => rfl, checksFrames_takeKind clearQuarantineRequest fun _ => rfl,
      checksFrames_takeKind readSlotRequest fun _ => rfl, checksFrames_takeKind readCounters fun _ => rfl,
      checksFrames_takeKind readMonitor fun _ => rfl, checksFrames_takeKind forceProfile fun _ => rfl,
      checksFrames_takeKind releaseForce fun _ => rfl, checksFrames_calibrate,
      checksFrames_takeKind spoolRead fun _ => rfl, checksFrames_takeKind spoolTrigger fun _ => rfl,
      checksFrames_takeKind spoolClear fun _ => rfl, checksFrames_takeKind clearNotices fun _ => rfl,
      checksFrames_takeKind rename fun _ => rfl, checksFrames_resetPartFull, nofun⟩
  exact hrows

/-! ### Snapshot reads -/

theorem slotOfByte_of_eq {n : Nat} {i : SlotId} (h : n = i.val) : slotOfByte n = some i := by
  subst h
  exact dif_pos i.isLt

theorem slotOfByte_of_gt {n : Nat} (h : 127 < n) : slotOfByte n = none := dif_neg (by omega)

theorem withSlot_of_eq {b : List Byte} {i : SlotId} (handle : SlotId → State → State × Reply) (s : State)
    (h : beNat b 0 1 = i.val) : withSlot b handle s = handle i s := by
  unfold withSlot
  rw [slotOfByte_of_eq (n := byteAt b 0) h]

theorem withSlot_of_gt {b : List Byte} (handle : SlotId → State → State × Reply) (s : State) (h : 127 < beNat b 0 1) :
    withSlot b handle s = (s, { status := .badSlot, detail := 0, fields := [], completion := .plain }) := by
  unfold withSlot
  rw [slotOfByte_of_gt (n := byteAt b 0) h]
  rfl

/-- Settles O30: each read answers the state's fields as the reports write them out. -/
theorem snapshotReads : Obligations.SnapshotReads := by
  intro s req
  refine ⟨fun h => ?_, fun i h hi => ?_, fun h hi => ?_, fun h => ?_, fun h => ?_, fun h => ?_⟩
  · have hfields : queryFields s =
        [0x00#8, 0x48#8, 0x01#8] ++ beBytes 3 s.agent.address.toNat ++ beBytes 6 Config.stationAddress.toNat ++
          beBytes 4 s.pace.epoch.toNat ++ [if s.policy.commitPending then 1#8 else 0#8] := rfl
    refine congrArg Host.Outcome.next ((takeKind_sound queryPart h).trans ?_)
    rw [← hfields]
    exact answer_plain req .ok 0 _ s
  · refine congrArg Host.Outcome.next ((takeKind_sound readSlotRequest h).trans ?_)
    have hreq : readSlotRequest (body req) s = (s, replyFields (readSlotFields i s)) := withSlot_of_eq _ s hi
    rw [hreq, policyReport_eq, policyReport_eq, slotReport_eq, ← List.append_assoc]
    exact answer_plain req .ok 0 _ s
  · refine congrArg Host.Outcome.next ((takeKind_sound readSlotRequest h).trans ?_)
    exact (congrArg (answer req) (withSlot_of_gt _ s hi)).trans (answer_plain req .badSlot 0 [] s)
  · refine congrArg Host.Outcome.next ((takeKind_sound readCounters h).trans ?_)
    exact answer_plain req .ok 0 _ s
  · refine congrArg Host.Outcome.next ((takeKind_sound readMonitor h).trans ?_)
    rw [monitorReport_eq]
    exact answer_plain req .ok 0 _ s
  · refine congrArg Host.Outcome.next ((takeKind_sound readStageDigest h).trans ?_)
    rw [imageReport_eq]
    exact answer_plain req .ok 0 _ s

/-! ### Policy Stage -/

theorem stage_of_pending {tests : List (Nat × Bool)} {write : Image → Image} {s : State}
    (h : s.policy.commitPending = true) :
    stage tests write s = (s, { status := .busy, detail := 0, fields := [], completion := .plain }) :=
  if_pos h

theorem stage_of_bad {tests : List (Nat × Bool)} {write : Image → Image} {s : State} {n : Nat}
    (h : s.policy.commitPending = false) (hbad : firstBad tests = some n) :
    stage tests write s = (s, { status := .badField, detail := n, fields := [], completion := .plain }) := by
  unfold stage
  rw [if_neg (Bool.eq_false_iff.mp h), hbad]
  rfl

theorem stage_of_good {tests : List (Nat × Bool)} {write : Image → Image} {s : State}
    (h : s.policy.commitPending = false) (hgood : firstBad tests = none) :
    stage tests write s =
      (s.modStaged write, { status := .ok, detail := 0, fields := [], completion := .plain }) := by
  unfold stage
  rw [if_neg (Bool.eq_false_iff.mp h), hgood]
  rfl

/-- Settles O31: the index, the pending commit, the fields, the write. -/
theorem stageSlotWrites : Obligations.StageSlotWrites := by
  intro s req h
  have hexec : exec .stageSlot s = .next (answer req (stageSlot (body req) s)) :=
    congrArg Host.Outcome.next (takeKind_sound stageSlot h)
  rw [hexec, firstOut_eq, slotFields_eq, slotStaged_eq]
  refine ⟨fun hindex => ?_, fun i hindex => ?_⟩
  · have hreq : stageSlot (body req) s = (s, { status := .badSlot, detail := 0, fields := [], completion := .plain }) := by
      unfold stageSlot
      rw [slotOfByte_of_gt (n := byteAt (body req) 0) hindex]
      rfl
    rw [hreq, answer_plain]
  · have hreq : stageSlot (body req) s =
        stage (slotTests (body req)) (fun m => { m with slots := m.slots.set i.val (readSlotPolicy (body req)) }) s := by
      unfold stageSlot
      rw [slotOfByte_of_eq (n := byteAt (body req) 0) hindex]
    rw [hreq]
    refine ⟨fun hpending => ?_, fun hidle => ⟨fun n hbad => ?_, fun hgood => ?_⟩⟩
    · rw [stage_of_pending hpending, answer_plain]
    · rw [stage_of_bad hidle hbad, answer_plain]
    · rw [stage_of_good hidle hgood, answer_plain]
      rfl

/-- What a STAGE request that names no slot does. -/
def StagesGroup (c : Instr) (code size : Nat) (fields : List Byte → List (Nat × Bool))
    (write : List Byte → Image → Image) : Prop :=
  ∀ (s : State) (req : Frame), Sound s req code size →
    (s.policy.commitPending = true → exec c s = .next (respond req .busy 0 [] s)) ∧
    (∀ n, s.policy.commitPending = false → firstOut (fields (body req)) = some n →
      exec c s = .next (respond req .badField n [] s)) ∧
    (s.policy.commitPending = false → firstOut (fields (body req)) = none →
      exec c s =
        .next (respond req .ok 0 [] { s with policy := { s.policy with staged := write (body req) s.policy.staged } }))

/-- A command that stages a group does what the words of the statement say where its tests and its write are theirs. -/
theorem stagesGroup_of {c : Instr} {code size : Nat} {fields tests : List Byte → List (Nat × Bool)}
    {write store : List Byte → Image → Image}
    (hexec : ∀ s, exec c s = .next (takeKind code size (fun b s => stage (tests b) (store b) s) s))
    (htests : ∀ b, fields b = tests b) (hstore : ∀ b m, firstBad (tests b) = none → store b m = write b m) :
    StagesGroup c code size fields write := by
  intro s req h
  rw [hexec, takeKind_sound _ h, firstOut_eq, htests]
  refine ⟨fun hpending => ?_, fun n hidle hbad => ?_, fun hidle hgood => ?_⟩
  · rw [stage_of_pending hpending, answer_plain]
  · rw [stage_of_bad hidle hbad, answer_plain]
  · rw [stage_of_good hidle hgood, answer_plain, ← hstore _ _ hgood]
    rfl

/-- The index of a STAGE PROFILE that passes its tests is that of an entry. -/
theorem profileOfByte_of_good {b : List Byte} (h : firstBad (profileTests b) = none) :
    ∃ p, profileOfByte (byteAt b 0) = some p := by
  rw [firstBad_eq_none_iff] at h
  simp only [profileTests, rangeTest, inRange, List.forall_mem_cons, decide_eq_true_eq] at h
  obtain ⟨⟨-, hindex⟩, -⟩ := h
  have hlt : byteAt b 0 < 16 := Nat.lt_succ_of_le hindex
  exact ⟨⟨byteAt b 0, hlt⟩, dif_pos hlt⟩

/-- Settles O32: row by row, the tests and the write are those of the request body. -/
theorem stageGroupsWrite : Obligations.StageGroupsWrite := by
  have hrows : ∀ x ∈ stageGroups, StagesGroup x.1 x.2.1 x.2.2.1 x.2.2.2.1 x.2.2.2.2 := by
    simp only [stageGroups, List.forall_mem_cons]
    refine ⟨stagesGroup_of (fun _ => rfl) partFields_eq fun b m _ => ?_,
      stagesGroup_of (fun _ => rfl) costFields_eq fun b m _ => ?_,
      stagesGroup_of (fun _ => rfl) (fun _ => rfl) fun b m _ => ?_,
      stagesGroup_of (fun _ => rfl) profileFields_eq fun b m hgood => ?_,
      stagesGroup_of (fun _ => rfl) trackerFields_eq fun b m _ => ?_,
      stagesGroup_of (fun _ => rfl) paceFields_eq fun b m _ => ?_,
      stagesGroup_of (fun _ => rfl) spoolFields_eq fun b m _ => ?_,
      stagesGroup_of (fun _ => rfl) noticeFields_eq fun b m _ => ?_, nofun⟩
    · rw [partStaged_eq]
    · rw [costStaged_eq]
    · rw [classesStaged_eq]
    · obtain ⟨p, hp⟩ := profileOfByte_of_good hgood
      rw [hp, profileStaged_eq b _ p hp]
    · rw [trackerStaged_eq]
    · rw [paceStaged_eq]
    · rw [spoolStaged_eq]
    · rw [routeStaged_eq]
      rfl
  exact hrows

theorem commit_of_pending (b : List Byte) {s : State} (h : s.policy.commitPending = true) :
    commit b s = (s, { status := .busy, detail := 0, fields := [], completion := .plain }) :=
  if_pos h

theorem commit_of_invalid (b : List Byte) {s : State} {p : ProfileId} (h : s.policy.commitPending = false)
    (hp : forcedInvalid s = some p) :
    commit b s = (s, { status := .badField, detail := 0x0A00 + p.val, fields := [], completion := .plain }) := by
  unfold commit
  rw [if_neg (Bool.eq_false_iff.mp h), hp]
  rfl

theorem commit_of_valid (b : List Byte) {s : State} (h : s.policy.commitPending = false) (hp : forcedInvalid s = none) :
    commit b s =
      ({ s with policy := { s.policy with commitPending := true, pendingDigest := digest s.policy.staged } },
        { status := .accepted, detail := 0, fields := beBytes 2 (digest s.policy.staged).toNat, completion := .plain }) := by
  unfold commit
  rw [if_neg (Bool.eq_false_iff.mp h), hp]
  rfl

theorem forcedInvalid_of_not_forced {s : State} (h : s.monitor.state ≠ .forced) : forcedInvalid s = none := if_neg h

theorem forcedInvalid_of_forced {s : State} {p : ProfileId} (h : s.monitor.state = .forced)
    (hp : s.monitor.forced = some p) : forcedInvalid s = if s.policy.staged.profiles[p].valid then none else some p := by
  unfold forcedInvalid
  rw [if_pos h, hp]
  rfl

/-- Settles O33: pending, then the forced profile, then the digest. -/
theorem commitAccepts : Obligations.CommitAccepts := by
  intro s req h
  have hexec : exec .commit s = .next (answer req (commit (body req) s)) :=
    congrArg Host.Outcome.next (takeKind_sound commit h)
  have hdigest : crc16 (imageReport s.policy.staged) = digest s.policy.staged := by rw [imageReport_eq]; rfl
  dsimp only
  rw [hexec, hdigest]
  refine ⟨fun hpending => ?_, fun hidle => ⟨fun hfree => ?_, fun p hforced hp => ?_⟩⟩
  · rw [commit_of_pending _ hpending, answer_plain]
  · rw [commit_of_valid _ hidle (forcedInvalid_of_not_forced hfree), answer_plain]
  · have hcheck := forcedInvalid_of_forced hforced hp
    refine ⟨fun hinvalid => ?_, fun hvalid => ?_⟩
    · rw [commit_of_invalid _ hidle (hcheck.trans (if_neg (Bool.eq_false_iff.mp hinvalid))), answer_plain]
    · rw [commit_of_valid _ hidle (hcheck.trans (if_pos hvalid)), answer_plain]

end Sys2Proof.Machine

/-! SUPPORT. Requests on slots, the Rate Monitor, the Usage Spool and the Agent itself. -/

namespace Sys2Proof.Machine

/-! ### Slots -/

/-- A handler's refusal, placed. -/
theorem answer_refuse (req : Frame) (x : Status) (s : State) : answer req (refuse x s) = respond req x 0 [] s :=
  answer_plain req x 0 [] s

/-- A handler's OK without fields, placed. -/
theorem answer_taken (req : Frame) (s : State) : answer req (taken s) = respond req .ok 0 [] s := answer_plain req .ok 0 [] s

theorem withSlot_refused {b : List Byte} (handle : SlotId → State → State × Reply) (s : State) (h : 127 < beNat b 0 1) :
    withSlot b handle s = refuse .badSlot s := withSlot_of_gt handle s h

theorem withBindable_of_eq {b : List Byte} {i : SlotId} (handle : SlotId → State → State × Reply) (s : State) (hi : i ≠ 0)
    (h : beNat b 0 1 = i.val) : withBindable b handle s = handle i s :=
  (withSlot_of_eq _ s h).trans (if_neg hi)

theorem withBindable_refused {b : List Byte} (handle : SlotId → State → State × Reply) (s : State)
    (h : beNat b 0 1 = 0 ∨ 127 < beNat b 0 1) : withBindable b handle s = refuse .badSlot s := by
  obtain h | h := h
  · exact (withSlot_of_eq (i := 0) _ s h).trans (if_pos rfl)
  · exact withSlot_of_gt _ s h

/-- Settles O35: the index, the state, the address, the bind. -/
theorem bindBindsSlot : Obligations.BindBindsSlot := by
  intro s req h
  have hexec : exec .bind s = .next (answer req (bindRequest (body req) s)) :=
    congrArg Host.Outcome.next (takeKind_sound bindRequest h)
  rw [hexec]
  refine ⟨fun hindex => ?_, fun i hi hindex => ?_⟩
  · rw [bindRequest, withBindable_refused _ s hindex, answer_refuse]
  · dsimp only
    rw [bindRequest, withBindable_of_eq _ s hi hindex]
    unfold bindChecked
    refine ⟨fun htaken => ?_, fun hvacant hmapped => ?_, fun hvacant hfree => ?_⟩
    · rw [if_pos htaken, answer_refuse]
    · have hsome : (mapLookup s (bindAddress (body req))).isSome = true := Option.isSome_iff_ne_none.mpr hmapped
      rw [if_neg (Classical.not_not.mpr hvacant), if_pos hsome, answer_refuse]
    · have hnone : ¬ (mapLookup s (bindAddress (body req))).isSome = true := fun h =>
        Option.isSome_iff_ne_none.mp h hfree
      rw [if_neg (Classical.not_not.mpr hvacant), if_neg hnone, answer_taken]
      rfl

theorem completeDrain_modSlot (i : SlotId) (g : Slot → Slot) (s : State) :
    completeDrain i (s.modSlot i g) =
      s.modSlot i fun x => if (g x).state = .draining ∧ (g x).outstanding = 0 then drainedSlot (g x) else g x := by
  unfold completeDrain
  rw [slot_modSlot_self]
  by_cases hdrained : (g (s.slot i)).state = .draining ∧ (g (s.slot i)).outstanding = 0
  · rw [if_pos hdrained, modSlot_modSlot_same]
    exact congrArg (s.setSlot i) (if_pos hdrained).symm
  · rw [if_neg hdrained]
    exact congrArg (s.setSlot i) (if_neg hdrained).symm

theorem completeDrain_sent (i : SlotId) (s : State) (q : List Frame) (d : LostDone) :
    completeDrain i { s with originQueue := q, lostDone := d } = { completeDrain i s with originQueue := q, lostDone := d } := by
  by_cases h : (s.slot i).state = .draining ∧ (s.slot i).outstanding = 0
  · have hs : completeDrain i s = s.modSlot i drainedSlot := if_pos h
    rw [hs]
    exact if_pos h
  · have hs : completeDrain i s = s := if_neg h
    rw [hs]
    exact if_neg h

/-- An unbind in one equation: the slot with its drain ended where nothing is outstanding, the DONEs sent or lost. -/
theorem unbindSlot_eq (i : SlotId) (s : State) :
    unbindSlot i s =
      { s.modSlot i fun x =>
          if x.outstanding = 0 then drainedSlot (drainingSlot (withdrawnSlot x)) else drainingSlot (withdrawnSlot x) with
        originQueue := sentOrigin s (withdrawals s i), lostDone := sentLost s (withdrawals s i) } := by
  unfold unbindSlot
  rw [withdrawAll_draining, completeDrain_sent, completeDrain_modSlot]
  simp only [drainingSlot, withdrawnSlot, true_and]

/-- A slot as an unbind leaves it, field by field (R24, R25). -/
theorem unbound_fields (x : Slot) :
    (if x.outstanding = 0 then drainedSlot (drainingSlot (withdrawnSlot x)) else drainingSlot (withdrawnSlot x)) =
      { x with
        state := if x.outstanding = 0 then .vacant else .draining
        address := if x.outstanding = 0 then none else x.address
        queue := [], balance := 0, liftRemaining := 0
        counters := { x.counters with withdrawn := x.counters.withdrawn + BitVec.ofNat 32 x.queue.length } } := by
  by_cases h : x.outstanding = 0
  · rw [if_pos h, if_pos h, if_pos h]
    rfl
  · rw [if_neg h, if_neg h, if_neg h]
    rfl

/-- Settles O36: the index, the state, the unbind. -/
theorem unbindDrainsSlot : Obligations.UnbindDrainsSlot := by
  intro s req h
  have hexec : exec .unbind s = .next (answer req (unbindRequest (body req) s)) :=
    congrArg Host.Outcome.next (takeKind_sound unbindRequest h)
  rw [hexec]
  refine ⟨fun hindex => ?_, fun i hi hindex => ?_⟩
  · rw [unbindRequest, withBindable_refused _ s hindex, answer_refuse]
  · rw [unbindRequest, withBindable_of_eq _ s hi hindex]
    unfold unbindChecked
    refine ⟨fun hclosed => ?_, fun hvacant hdraining => ?_⟩
    · rw [if_pos hclosed, answer_refuse]
    · rw [if_neg (not_or.mpr ⟨hvacant, hdraining⟩), answer_taken, unbindSlot_eq]
      have hlength : (withdrawals s i).length = (s.slot i).queue.length := List.length_map _
      unfold sentLost
      rw [hlength, State.modSlot, unbound_fields]
      rfl

/-- Settles O37: the index, the state, the change. -/
theorem suspendAndResume : Obligations.SuspendAndResume := by
  intro s req
  refine ⟨fun h => ?_, fun h => ?_⟩
  · have hexec : exec .suspend s = .next (answer req (suspendRequest (body req) s)) :=
      congrArg Host.Outcome.next (takeKind_sound suspendRequest h)
    rw [hexec]
    refine ⟨fun hindex => ?_, fun i hindex => ⟨fun hstate => ?_, fun hstate => ?_⟩⟩
    · rw [suspendRequest, withSlot_refused _ s hindex, answer_refuse]
    · rw [suspendRequest, withSlot_of_eq _ s hindex, suspendChecked, if_pos hstate, answer_taken]
      rfl
    · rw [suspendRequest, withSlot_of_eq _ s hindex, suspendChecked, if_neg hstate, answer_refuse]
  · have hexec : exec .resume s = .next (answer req (resumeRequest (body req) s)) :=
      congrArg Host.Outcome.next (takeKind_sound resumeRequest h)
    rw [hexec]
    refine ⟨fun hindex => ?_, fun i hindex => ⟨fun hstate => ?_, fun hstate => ?_⟩⟩
    · rw [resumeRequest, withSlot_refused _ s hindex, answer_refuse]
    · rw [resumeRequest, withSlot_of_eq _ s hindex, resumeChecked, if_pos hstate, answer_taken]
      rfl
    · rw [resumeRequest, withSlot_of_eq _ s hindex, resumeChecked, if_neg hstate, answer_refuse]

/-- Settles O38: the index, the state, the change with its decision. -/
theorem clearQuarantineBinds : Obligations.ClearQuarantineBinds := by
  intro s req h
  have hexec : exec .clearQuarantine s = .next (answer req (clearQuarantineRequest (body req) s)) :=
    congrArg Host.Outcome.next (takeKind_sound clearQuarantineRequest h)
  rw [hexec]
  refine ⟨fun hindex => ?_, fun i hindex => ⟨fun hstate => ?_, fun hstate => ?_⟩⟩
  · rw [clearQuarantineRequest, withSlot_refused _ s hindex, answer_refuse]
  · rw [clearQuarantineRequest, withSlot_of_eq _ s hindex, clearQuarantineChecked, if_pos hstate, answer_taken]
    rfl
  · rw [clearQuarantineRequest, withSlot_of_eq _ s hindex, clearQuarantineChecked, if_neg hstate, answer_refuse]

/-! ### Rate Monitor -/

theorem forceProfile_of_gt {b : List Byte} (s : State) (h : 15 < beNat b 0 1) : forceProfile b s = (s, replyBadField 0) := by
  have hindex : profileOfByte (byteAt b 0) = none := dif_neg (by have : 15 < byteAt b 0 := h; omega)
  unfold forceProfile
  rw [hindex]

theorem forceProfile_of_eq {b : List Byte} {p : ProfileId} (s : State) (h : beNat b 0 1 = p.val) :
    forceProfile b s =
      if forceable s p then taken (s.modMonitor (forcedMonitor p)) else (s, replyBadField 0) := by
  have hbyte : byteAt b 0 = p.val := h
  have hindex : profileOfByte (byteAt b 0) = some p := by
    rw [hbyte]
    exact dif_pos p.isLt
  unfold forceProfile
  rw [hindex]

theorem forceable_iff (s : State) (p : ProfileId) :
    forceable s p = true ↔
      s.policy.active.profiles[p].valid = true ∧
        (s.policy.commitPending = false ∨ s.policy.staged.profiles[p].valid = true) := by
  simp [forceable, activeProfile, stagedProfile]

/-- Settles O39: the index and the entry's validity; the release of a FORCED tracker. -/
theorem forceAndRelease : Obligations.ForceAndRelease := by
  intro s req
  refine ⟨fun h => ?_, fun h => ?_⟩
  · have hexec : exec .forceProfile s = .next (answer req (forceProfile (body req) s)) :=
      congrArg Host.Outcome.next (takeKind_sound forceProfile h)
    rw [hexec]
    refine ⟨fun hindex => ?_, fun p hindex => ?_⟩
    · rw [forceProfile_of_gt s hindex]
      exact congrArg Host.Outcome.next (answer_plain req .badField 0 [] s)
    · rw [forceProfile_of_eq s hindex]
      refine ⟨fun hactive hstaged => ?_, fun hbad => ?_⟩
      · rw [if_pos ((forceable_iff s p).mpr ⟨hactive, hstaged⟩), answer_taken]
        rfl
      · have hnot : ¬ forceable s p = true := fun h => by
          obtain ⟨hactive, hstaged⟩ := (forceable_iff s p).mp h
          obtain hbad | ⟨hpending, hbad⟩ := hbad
          · exact nomatch hbad.symm.trans hactive
          · exact hstaged.elim (fun e => nomatch e.symm.trans hpending) fun e => nomatch hbad.symm.trans e
        rw [if_neg hnot]
        exact congrArg Host.Outcome.next (answer_plain req .badField 0 [] s)
  · have hexec : exec .releaseForce s = .next (answer req (releaseForce (body req) s)) :=
      congrArg Host.Outcome.next (takeKind_sound releaseForce h)
    rw [hexec]
    refine ⟨fun hforced => ?_, fun hfree => ?_⟩
    · rw [releaseForce, if_pos hforced, answer_taken]
      rfl
    · rw [releaseForce, if_neg hfree, answer_refuse]

/-- Settles O40: a count above 0 goes to the one row, a count of 0 to the other. -/
theorem calibrateAndCancel : Obligations.CalibrateAndCancel := by
  intro s req h
  obtain ⟨holdest, hcrc, hlength⟩ := id h
  have hkind := kindIs_of_oldest holdest
  have hcancels : cancels req = decide (field req 0 1 = 0) := by
    have hlength' : decide (bodyLength req = 5) = true := decide_eq_true hlength
    rw [cancels, hkind, hcrc, hlength']
    rfl
  refine ⟨fun hcount => ?_, fun hcount => ?_⟩
  · have haccepts : (kindIs 0x52 req && !cancels req) = true := by
      rw [hkind, hcancels, decide_eq_false (by omega)]
      rfl
    have hexec : exec .calibrate s = .next (answer req (calibrate (body req) s)) :=
      congrArg Host.Outcome.next (takeRequest_sound _ calibrate h haccepts)
    rw [hexec]
    unfold calibrate
    refine ⟨fun hrunning => ?_, fun hrunning hbudget => ?_, fun hrunning hbudget => ?_⟩
    · rw [if_pos hrunning, answer_refuse]
    · have hbudget' : beNat (body req) 1 2 = 0 := hbudget
      rw [if_neg hrunning, if_pos hbudget']
      exact congrArg Host.Outcome.next (answer_plain req .badField 1 [] s)
    · have hbudget' : ¬ beNat (body req) 1 2 = 0 := hbudget
      rw [if_neg hrunning, if_neg hbudget', answer_taken]
      rfl
  · have haccepts : cancels req = true := hcancels.trans (decide_eq_true hcount)
    have hexec : exec .calibrateCancel s = .next (answer req (taken (cancelCalibration s))) :=
      congrArg Host.Outcome.next (takeRequest_sound _ calibrateCancel h haccepts)
    rw [hexec, answer_taken]
    unfold cancelCalibration
    refine ⟨fun hidle => ?_, fun hrunning => ?_⟩
    · rw [if_neg hidle]
    · rw [if_pos hrunning]
      rfl

/-! ### Usage Spool -/

/-- Settles O41: the maximum, the count, the entries. -/
theorem spoolReadRemoves : Obligations.SpoolReadRemoves := by
  intro s req h
  have hexec : exec .spoolRead s = .next (answer req (spoolRead (body req) s)) :=
    congrArg Host.Outcome.next (takeKind_sound spoolRead h)
  rw [hexec]
  unfold spoolRead
  refine ⟨fun hbad => ?_, fun hlow hhigh => ?_⟩
  · have hrange : ¬ inRange (body req) 0 1 1 60 = true := fun h => by
      have hin : 1 ≤ field req 0 1 ∧ field req 0 1 ≤ 60 := of_decide_eq_true h
      omega
    rw [if_neg hrange]
    exact congrArg Host.Outcome.next (answer_plain req .badField 0 [] s)
  · have hrange : inRange (body req) 0 1 1 60 = true := decide_eq_true ⟨hlow, hhigh⟩
    have hfields (n : Nat) : spoolReadFields n s =
        [BitVec.ofNat 8 n, 0#8] ++ (s.spool.entries.take n).flatMap SpoolEntry.bytes := by
      simp [spoolReadFields, ← one_eq, one]
    rw [if_pos hrange, hfields]
    exact congrArg Host.Outcome.next (answer_plain req .ok 0 _ _)

/-- The entries that a RING THEN STOP trigger keeps are the newest, as many as leave the room. -/
theorem length_triggerKeep (c : SpoolSettings) (es : List SpoolEntry) :
    (triggerKeep c es).length = min es.length (capacityOf c - max 1 (min c.postReserve (capacityOf c))) := by
  rw [triggerKeep, List.length_drop]
  unfold triggerRoom
  omega

/-- Settles O42: a trigger in PRE is taken, in any other state ignored. -/
theorem spoolTriggerTakes : Obligations.SpoolTriggerTakes := by
  intro s req h
  have hexec : exec .spoolTrigger s = .next (answer req (spoolTrigger (body req) s)) :=
    congrArg Host.Outcome.next (takeKind_sound spoolTrigger h)
  rw [hexec]
  unfold spoolTrigger offerTrigger
  refine ⟨fun hstate => ?_, fun hstate => ?_⟩
  · rw [if_neg hstate, if_neg hstate]
    exact congrArg Host.Outcome.next (answer_plain req .badState 0 [] _)
  · refine ⟨if s.spoolSettings.mode = .ringThenStop then triggerKeep s.spoolSettings s.spool.entries else s.spool.entries,
      fun hmode => ?_, fun hmode => if_neg hmode, ?_⟩
    · rw [if_pos hmode]
      exact ⟨⟨_, rfl⟩, length_triggerKeep _ _⟩
    · rw [if_pos hstate, if_pos hstate]
      exact congrArg Host.Outcome.next (answer_plain req .ok 0 [] _)

/-! ### The Agent's own -/

/-- Settles O45: the CRC, the count, the length, the list. -/
theorem setManagersReplaces : Obligations.SetManagersReplaces := by
  intro s req h
  have hexec : exec .setManagers s = .next (answer req (setManagers req s)) :=
    congrArg Host.Outcome.next (takeRequest_oldest _ setManagers h (kindIs_of_oldest h))
  rw [hexec]
  unfold setManagers
  dsimp only
  refine ⟨fun hcorrupt => ?_, fun hsound => ?_⟩
  · rw [if_pos hcorrupt, answer_refuse]
  · rw [if_neg (Bool.eq_false_iff.mp hsound)]
    refine ⟨fun hshort => ?_, fun hlong hcount => ?_, fun hlong hcount hlength => ?_, fun hlong hcount hlength => ?_⟩
    · rw [if_pos hshort]
      exact congrArg Host.Outcome.next (answer_plain req .badField 0 [] s)
    · have hcount' : 4 < byteAt (body req) 0 := hcount
      rw [if_neg (Nat.not_lt.mpr hlong), if_pos hcount']
      exact congrArg Host.Outcome.next (answer_plain req .badField 0 [] s)
    · have hcount' : ¬ 4 < byteAt (body req) 0 := Nat.not_lt.mpr hcount
      have hlength' : bodyLength req ≠ 1 + 3 * byteAt (body req) 0 + 2 := hlength
      rw [if_neg (Nat.not_lt.mpr hlong), if_neg hcount', if_pos hlength']
      exact congrArg Host.Outcome.next (answer_plain req .badField _ [] s)
    · have hcount' : ¬ 4 < byteAt (body req) 0 := Nat.not_lt.mpr hcount
      have hlength' : ¬ bodyLength req ≠ 1 + 3 * byteAt (body req) 0 + 2 := Classical.not_not.mpr hlength
      refine ⟨managerAddresses (body req), ?_, fun k hk => ?_, ?_⟩
      · rw [managerAddresses, List.length_map, List.length_range]
        rfl
      · have hk' : k < byteAt (body req) 0 := hk
        rw [managerAddresses, List.getElem?_map, List.getElem?_range hk']
        rfl
      · rw [if_neg (Nat.not_lt.mpr hlong), if_neg hcount', if_neg hlength', answer_taken]

/-- An OK whose placement completes something more, with a place free. -/
theorem answer_replyThen_of_space {req : Frame} {s : State} (c : Completion) (h : s.originQueue.length < 64) :
    answer req (s, replyThen c) =
      completeRequest c (pushOrigin (buildMrsp s.transportType s.agent.address req 0x00#8 0 []) s) := by
  have hspace : originHasSpace s = true := decide_eq_true h
  exact if_pos hspace

/-- The same with the origin queue full. -/
theorem answer_replyThen_of_full {req : Frame} {s : State} (c : Completion) (h : 64 ≤ s.originQueue.length) :
    answer req (s, replyThen c) =
      { s with
        agent :=
          { s.agent with
            waiting := some { frame := buildMrsp s.transportType s.agent.address req 0x00#8 0 [], completion := c } } } := by
  have hspace : ¬ originHasSpace s = true := fun hs => Nat.not_le.mpr (of_decide_eq_true hs) h
  exact if_neg hspace

/-- Settles O46: the reply of each handler, placed or kept with what its placement completes. -/
theorem renameAndResetPart : Obligations.RenameAndResetPart := by
  intro s req
  dsimp only
  refine ⟨fun h => ?_, fun h => ?_⟩
  · have hexec : exec .rename s = .next (answer req (rename (body req) s)) :=
      congrArg Host.Outcome.next (takeKind_sound rename h)
    rw [hexec]
    unfold rename
    dsimp only
    have hfree (hmap : mapLookup s (BitVec.ofNat 24 (field req 0 3)) = none) :
        ¬ (mapLookup s (BitVec.ofNat 24 (beNat (body req) 0 3))).isSome = true := fun h =>
      Option.isSome_iff_ne_none.mp h hmap
    refine ⟨fun hmap => ?_, fun hmap hspace => ?_, fun hmap hfull => ?_⟩
    · have hsome : (mapLookup s (BitVec.ofNat 24 (beNat (body req) 0 3))).isSome = true :=
        Option.isSome_iff_ne_none.mpr hmap
      rw [if_pos hsome, answer_refuse]
    · rw [if_neg (hfree hmap), answer_replyThen_of_space _ hspace]
      rfl
    · rw [if_neg (hfree hmap), answer_replyThen_of_full _ hfull]
      rfl
  · obtain ⟨holdest, hcrc, hlength⟩ := id h
    have hkind := kindIs_of_oldest holdest
    have htraffic : resetsTraffic req = decide (field req 0 1 = 2) := by
      have hlength' : decide (bodyLength req = 3) = true := decide_eq_true hlength
      rw [resetsTraffic, hkind, hcrc, hlength']
      rfl
    have hexecFull (hscope : field req 0 1 ≠ 2) :
        exec .resetPartFull s = .next (answer req (resetPart (body req) s)) := by
      refine congrArg Host.Outcome.next (takeRequest_sound _ resetPart h ?_)
      rw [hkind, htraffic, decide_eq_false hscope]
      rfl
    have hexecTraffic (hscope : field req 0 1 = 2) :
        exec .resetPartTraffic s = .next (answer req (resetPart (body req) s)) :=
      congrArg Host.Outcome.next (takeRequest_sound _ resetPart h (htraffic.trans (decide_eq_true hscope)))
    have hfull (hscope : field req 0 1 = 1) : resetPart (body req) s = (s, replyThen (.reset .full)) := by
      have hbyte : byteAt (body req) 0 = 1 := hscope
      unfold resetPart scopeOf
      rw [hbyte]
      rfl
    have hshort (hscope : field req 0 1 = 2) : resetPart (body req) s = (s, replyThen (.reset .traffic)) := by
      have hbyte : byteAt (body req) 0 = 2 := hscope
      unfold resetPart scopeOf
      rw [hbyte]
      rfl
    refine ⟨fun hscope hspace => ?_, fun hscope hqueue => ?_, fun hscope hspace => ?_, fun hscope hqueue => ?_,
      fun hone htwo => ?_⟩
    · rw [hexecFull (by omega), hfull hscope, answer_replyThen_of_space _ hspace]
      rfl
    · rw [hexecFull (by omega), hfull hscope, answer_replyThen_of_full _ hqueue]
    · rw [hexecTraffic hscope, hshort hscope, answer_replyThen_of_space _ hspace]
      rfl
    · rw [hexecTraffic hscope, hshort hscope, answer_replyThen_of_full _ hqueue]
    · have hnone : scopeOf (body req) = none := by
        unfold scopeOf
        split
        · next e => exact absurd e hone
        · next e => exact absurd e htwo
        · rfl
      have hreply : resetPart (body req) s = (s, replyBadField 0) := by
        unfold resetPart
        rw [hnone]
      rw [hexecFull htwo, hreply]
      exact congrArg Host.Outcome.next (answer_plain req .badField 0 [] s)

end Sys2Proof.Machine

/-! SUPPORT. The soft resets, the notices and the Usage Spool's taking of a record. -/

namespace Sys2Proof.Machine

/-! ### FULL reset -/

theorem resetSlots_eq_ofFn :
    resetSlots = Vector.ofFn fun i : Fin 128 => { resetSlot with state := if i = 0 then .bound else .vacant } := by
  refine Vector.ext fun i hi => ?_
  rw [Vector.getElem_ofFn]
  exact resetSlots_getElem ⟨i, hi⟩

/-- Settles O47: where a FULL reset is due it is carried out, and the state it leaves is the one written out. -/
theorem fullResetState : Obligations.FullResetState := by
  intro s hreset hdue
  refine ⟨congrArg Host.Outcome.next ((if_pos ⟨hreset, hdue⟩ : fullReset s = afterFullReset s).trans ?_), rfl⟩
  have hslots : (afterFullReset s).slots = _ := resetSlots_eq_ofFn
  exact congrArg (fun v => { afterFullReset s with slots := v }) hslots

/-! ### Notices -/

/-- The NOTICE frame of a route, where it has an address and its mask includes the kind. -/
def routeFrame (k : NoticeKind) (s : State) (r : NoticeRoute) : Option Frame :=
  match r.address with
  | none => none
  | some a =>
    if r.mask.getLsbD k.code then
      some (buildNotice s.transportType s.agent.address a k s.agent.flags s.pace.epoch)
    else none

/-- One route's part of a raise: its frame sent where there is a place, counted as lost where there is none. -/
theorem noticeOnRoute_eq (r : NoticeRoute) (k : NoticeKind) (s : State) :
    noticeOnRoute r k s =
      { s with
        originQueue := sentOrigin s (routeFrame k s r).toList
        agent :=
          { s.agent with
            noticesLost :=
              s.agent.noticesLost +
                BitVec.ofNat 32 ((routeFrame k s r).toList.length - (64 - s.originQueue.length)) } } := by
  unfold noticeOnRoute routeFrame
  cases r.address with
  | none => simp [sentOrigin]
  | some a =>
    by_cases hmask : r.mask.getLsbD k.code = true
    · dsimp only
      rw [if_pos hmask, if_pos hmask]
      by_cases hspace : s.originQueue.length < 64
      · have hspace' : originHasSpace s = true := decide_eq_true hspace
        obtain ⟨m, hm⟩ : ∃ m, 64 - s.originQueue.length = m + 1 := ⟨63 - s.originQueue.length, by omega⟩
        rw [if_pos hspace']
        simp [sentOrigin, pushOrigin, hm]
      · have hspace' : ¬ originHasSpace s = true := fun h => hspace (of_decide_eq_true h)
        have hm : 64 - s.originQueue.length = 0 := by omega
        rw [if_neg hspace']
        simp [sentOrigin, hm]
    · dsimp only
      rw [if_neg hmask, if_neg hmask]
      simp [sentOrigin]

/-- A raise that finds its flag clear: the flag, and the frames of the two routes sent or counted as lost. -/
theorem raiseNotice_of_clear {k : NoticeKind} {s : State} (h : noticeFlag s.agent.flags k = false) :
    raiseNotice k s =
      let u := { s with agent := { s.agent with flags := setNoticeFlag s.agent.flags k } }
      let frames := [s.policy.active.routeA, s.policy.active.routeB].filterMap (routeFrame k u)
      { u with
        originQueue := sentOrigin s frames
        agent :=
          { u.agent with
            noticesLost := s.agent.noticesLost + BitVec.ofNat 32 (frames.length - (64 - s.originQueue.length)) } } := by
  unfold raiseNotice
  rw [if_neg (Bool.eq_false_iff.mp h)]
  dsimp only
  rw [noticeOnRoute_eq, noticeOnRoute_eq]
  have hframes (a b : NoticeRoute) (u : State) : [a, b].filterMap (routeFrame k u) =
      (routeFrame k u a).toList ++ (routeFrame k u b).toList := by
    cases ha : routeFrame k u a <;> cases hb : routeFrame k u b <;> simp [ha, hb]
  rw [hframes, ← sentOrigin_append, ← unsent_append, BitVec.ofNat_add, ← BitVec.add_assoc]
  rfl

/-- Settles O49: a set flag stops the raise; a clear one is set and both routes' frames are sent. -/
theorem noticeRaise : Obligations.NoticeRaise := by
  intro k s
  refine ⟨raiseNotice_set k s, fun hclear => ?_⟩
  rw [raiseNotice_of_clear hclear]
  exact ⟨rfl, rfl, rfl, rfl⟩

/-! ### What a notice and a record do to the Agent -/

/-- From `s` to `t` the Agent has changed in its notice flags and its lost notices alone. -/
def Noted (s t : State) : Prop := ∃ flags lost, t.agent = { s.agent with flags := flags, noticesLost := lost }

theorem Noted.of_agent_eq {s t : State} (h : t.agent = s.agent) : Noted s t := ⟨s.agent.flags, s.agent.noticesLost, h⟩

theorem Noted.trans {s t v : State} (h : Noted s t) (h' : Noted t v) : Noted s v := by
  obtain ⟨_, _, e⟩ := h
  obtain ⟨flags, lost, e'⟩ := h'
  exact ⟨flags, lost, by rw [e', e]⟩

theorem noted_raiseNotice (k : NoticeKind) (s : State) : Noted s (raiseNotice k s) := by
  cases h : noticeFlag s.agent.flags k with
  | true => rw [raiseNotice_set k s h]; exact .of_agent_eq rfl
  | false => rw [raiseNotice_of_clear h]; exact ⟨_, _, rfl⟩

theorem noted_putEntries (es : List SpoolEntry) (s : State) : Noted s (putEntries es s) := by
  have hput : Noted s (s.modSpool fun x => { x with entries := es }) := .of_agent_eq rfl
  unfold putEntries
  dsimp only
  split
  · exact hput.trans (noted_raiseNotice _ _)
  · exact hput

theorem noted_freezeIfFull (s : State) : Noted s (freezeIfFull s) := by
  have hfrozen : Noted s (s.modSpool fun x => { x with state := .frozen }) := .of_agent_eq rfl
  unfold freezeIfFull
  split
  · exact hfrozen.trans (noted_raiseNotice _ _)
  · exact .of_agent_eq rfl

theorem noted_offerRecord (e : SpoolEntry) (s : State) : Noted s (offerRecord e s).1 := by
  have hdropped : Noted s (countDropped s) := .of_agent_eq rfl
  unfold offerRecord
  split
  · exact .of_agent_eq rfl
  · exact hdropped
  · split
    · exact (noted_putEntries _ _).trans (noted_freezeIfFull _)
    · exact hdropped.trans (noted_raiseNotice _ _)
  · split
    · exact noted_putEntries _ _
    · exact noted_putEntries _ _

theorem noted_offerTrigger (i : Option SlotId) (code : Nat) (s : State) : Noted s (offerTrigger i code s) := by
  unfold offerTrigger
  split
  · unfold takeTrigger
    extract_lets s₁
    have htaken : Noted s s₁ := .of_agent_eq rfl
    exact htaken.trans (noted_offerRecord _ _)
  · exact .of_agent_eq rfl

theorem noted_offerEvent (k : EventKind) (i : Option SlotId) (v : BitVec 32) (s : State) : Noted s (offerEvent k i v s) := by
  unfold offerEvent
  dsimp only
  split
  · exact (noted_offerRecord _ _).trans (noted_offerTrigger _ _ _)
  · exact noted_offerRecord _ _

/-! ### TRAFFIC reset -/

/-- A slot across a TRAFFIC reset, field by field (R36, R82). -/
def clearedSlot (x : Slot) : Slot :=
  { x with
    state := if x.state = .draining then .vacant else x.state
    address := if x.state = .draining then none else x.address
    queue := [], balance := 0, outstanding := 0, releasedEpoch := 0, liftRemaining := 0, liftAmount := 0
    admissionMark := false, idleFlag := false, idleRun := 0
    counters := { x.counters with withdrawn := x.counters.withdrawn + BitVec.ofNat 32 x.queue.length } }

theorem trafficSlot_withdrawnSlot (x : Slot) : trafficSlot (withdrawnSlot x) = clearedSlot x := by
  unfold clearedSlot
  by_cases h : x.state = .draining
  · rw [if_pos h, if_pos h]
    exact if_pos h
  · rw [if_neg h, if_neg h]
    exact if_neg h

theorem cancelCalibration_of_running {s : State} (h : s.monitor.cal.status = .running) :
    cancelCalibration s =
      { s with
        monitor := { s.monitor with cal := { s.monitor.cal with status := .cancelled } }
        pace := { s.pace with cal := stopCal s.pace.cal } } := if_pos h

theorem cancelCalibration_of_not_running {s : State} (h : s.monitor.cal.status ≠ .running) : cancelCalibration s = s :=
  if_neg h

theorem trafficBlocks_eq (s : State) : trafficBlocks s = trafficCleared s := by
  have hslots : (s.mapSlots fun _ x => trafficSlot (withdrawnSlot x)) = _ :=
    congrArg (fun g => s.mapSlots g) (funext fun _ => funext trafficSlot_withdrawnSlot)
  unfold trafficBlocks trafficCleared
  dsimp only
  rw [trafficStore_mapSlots, hslots, eachSlot_eq, meterLoaded_eq, meterLoaded_eq]
  by_cases hrunning : s.monitor.cal.status = .running
  · rw [cancelCalibration_of_running, if_pos hrunning, if_pos hrunning]
    · rfl
    · exact hrunning
  · rw [cancelCalibration_of_not_running, if_neg hrunning, if_neg hrunning]
    · rfl
    · exact hrunning

theorem slot_eachSlot (g : SlotId → Slot → Slot) (s : State) (i : SlotId) : (eachSlot g s).slot i = g i (s.slot i) := by
  rw [eachSlot_eq, slot_mapSlots]

theorem trafficCleared_slots (s : State) : (trafficCleared s).slots = (eachSlot (fun _ => clearedSlot) s).slots := rfl

/-- A state with the slots of a TRAFFIC reset holds every slot cleared. -/
theorem slot_of_trafficCleared {s t : State} (h : t.slots = (trafficCleared s).slots) (i : SlotId) :
    t.slot i = clearedSlot (s.slot i) := by
  rw [← slot_eachSlot (fun _ => clearedSlot)]
  unfold State.slot
  rw [h, trafficCleared_slots]

/-- The RESET record and the end of the pending reset leave the slots as they were. -/
theorem endResetDue_offerEvent_slots (k : EventKind) (slot : Option SlotId) (value : BitVec 32) (s : State) :
    (endResetDue (offerEvent k slot value s)).slots = s.slots := by
  unfold endResetDue
  rw [offerEvent_touches]

/-- Settles O48: the blocks' parts, then the RESET record, which touches spool, notices and origin queue alone. -/
theorem trafficResetState : Obligations.TrafficResetState := by
  intro s hreset hdue
  have htouches := offerEvent_touches .reset none 2#32 (trafficCleared s)
  obtain ⟨flags, lost, hagent⟩ := noted_offerEvent .reset none 2#32 (trafficCleared s)
  have hexec : exec .trafficReset s = .next (endResetDue (offerEvent .reset none 2#32 (trafficCleared s))) := by
    rw [← trafficBlocks_eq]
    exact congrArg Host.Outcome.next (if_pos ⟨hreset, hdue⟩)
  refine ⟨_, hexec, rfl, fun i => ?_, ?_⟩
  · rw [slot_of_trafficCleared (endResetDue_offerEvent_slots .reset none 2#32 (trafficCleared s)) i]
    exact ⟨rfl, rfl, rfl, rfl, rfl, rfl, rfl, rfl, rfl, rfl, rfl, rfl, rfl, rfl, fun h => ⟨if_pos h, if_pos h⟩,
      fun h => ⟨if_neg h, if_neg h⟩⟩
  · unfold endResetDue
    rw [htouches, hagent]
    unfold trafficCleared eachSlot seekingAgain
    exact ⟨rfl, rfl, rfl, rfl, rfl, rfl, rfl, rfl, rfl, rfl, rfl, rfl, rfl, rfl, fun h => if_pos h,
      fun h => if_neg h, rfl, rfl, rfl, rfl, rfl, rfl, rfl, rfl, rfl, rfl, rfl, rfl, rfl, rfl⟩

/-! ### Records -/

theorem spoolBehaviour_frozen (m : SpoolMode) : spoolBehaviour .frozen m = .frozen := by cases m <;> rfl

theorem freezeIfFull_of_not_post {s : State} (h : s.spool.state ≠ .post) : freezeIfFull s = s := if_neg fun hc => h hc.1

theorem freezeIfFull_of_room {s : State} (h : s.spool.entries.length < capacityOf s.spoolSettings) : freezeIfFull s = s :=
  if_neg fun hc => Nat.not_le.mpr h hc.2.2

/-- A take under the stop behaviour, by the room there is. -/
theorem offerRecord_of_stop {e : SpoolEntry} {s : State} (h : spoolBehaviour s.spool.state s.spoolSettings.mode = .stop) :
    offerRecord e s =
      if s.spool.entries.length < capacityOf s.spoolSettings then
        (freezeIfFull (putEntries (s.spool.entries ++ [e]) s), true)
      else (raiseNotice .spoolFull (countDropped s), false) := by
  unfold offerRecord
  rw [h]

/-- A take under the ring behaviour. -/
theorem offerRecord_of_ring {e : SpoolEntry} {s : State} (h : spoolBehaviour s.spool.state s.spoolSettings.mode = .ring) :
    offerRecord e s =
      if s.spool.entries.length < capacityOf s.spoolSettings then (putEntries (s.spool.entries ++ [e]) s, true)
      else (putEntries (s.spool.entries.drop 1 ++ [e]) s, true) := by
  unfold offerRecord
  rw [h]

theorem putEntries_spool (es : List SpoolEntry) (s : State) : (putEntries es s).spool = { s.spool with entries := es } := by
  unfold putEntries
  dsimp only
  split
  · rw [raiseNotice_touches]; rfl
  · rfl

theorem putEntries_spoolSettings (es : List SpoolEntry) (s : State) : (putEntries es s).spoolSettings = s.spoolSettings := by
  rw [putEntries_touches]; rfl

/-- A take in POST under the stop behaviour that leaves room. -/
theorem freezeIfFull_putEntries_of_room {es : List SpoolEntry} {s : State} (h : es.length < capacityOf s.spoolSettings) :
    freezeIfFull (putEntries es s) = putEntries es s :=
  freezeIfFull_of_room (by rw [putEntries_spool, putEntries_spoolSettings]; exact h)

/-- A take in POST under the stop behaviour that fills the spool. -/
theorem freezeIfFull_putEntries_of_full {es : List SpoolEntry} {s : State} (hstate : s.spool.state = .post)
    (hstop : spoolBehaviour .post s.spoolSettings.mode = .stop) (h : capacityOf s.spoolSettings ≤ es.length) :
    freezeIfFull (putEntries es s) =
      raiseNotice .spoolFrozen ((putEntries es s).modSpool fun x => { x with state := .frozen }) := by
  refine if_pos ?_
  rw [putEntries_spool, putEntries_spoolSettings]
  exact ⟨hstate, hstop, h⟩

theorem offerEvent_eq (k : EventKind) (slot : Option SlotId) (value : BitVec 32) (s : State) :
    offerEvent k slot value s =
      let u := (offerRecord (.event k slot value s.pace.epoch s.pace.time) s).1
      if s.spoolSettings.triggerMask.getLsbD k.code = true then
        if u.spool.state = .pre then triggerTaken slot k.code u
        else { u with spool := { u.spool with ignored := u.spool.ignored + 1 } }
      else u := by
  have hsettings : (offerRecord (.event k slot value s.pace.epoch s.pace.time) s).1.spoolSettings = s.spoolSettings := by
    rw [offerRecord_touches]; rfl
  dsimp only
  rw [triggerTaken_eq]
  unfold offerEvent eventEntry
  dsimp only
  rw [hsettings]
  rfl

/-- Settles O50: the behaviour of state and mode, then the room; and an event's trigger after its record. -/
theorem spoolTakesRecord : Obligations.SpoolTakesRecord := by
  intro e s
  dsimp only
  rw [entryLimit_eq]
  have hlength : (s.spool.entries ++ [e]).length = s.spool.entries.length + 1 := by simp
  have hput (es : List SpoolEntry) :
      (if s.spool.entries.length < s.spoolSettings.watermark ∧ s.spoolSettings.watermark ≤ es.length then
        raiseNotice .watermark { s with spool := { s.spool with entries := es } }
      else { s with spool := { s.spool with entries := es } }) = putEntries es s := rfl
  rw [hput, hput]
  refine ⟨fun hstate => ?_, fun hstate hmode => ?_, fun hstate => ?_, fun hstate hmode => ?_, fun hstate hmode => ?_,
    fun hring => ?_, offerRecord_touches e s, fun k slot value => offerEvent_eq k slot value s⟩
  · unfold offerRecord
    rw [hstate]
    rfl
  · unfold offerRecord
    obtain hmode | hmode := hmode <;> rw [hstate, hmode] <;> rfl
  · unfold offerRecord
    rw [hstate, spoolBehaviour_frozen, ← hstate]
    rfl
  · have hstop : spoolBehaviour s.spool.state s.spoolSettings.mode = .stop := by rw [hstate, hmode]; rfl
    have hpost : (putEntries (s.spool.entries ++ [e]) s).spool.state ≠ .post := by
      rw [putEntries_spool]
      exact fun h => nomatch hstate.symm.trans h
    rw [offerRecord_of_stop hstop]
    refine ⟨fun hroom => ?_, fun hfull => if_neg (Nat.not_lt.mpr hfull)⟩
    rw [if_pos hroom, freezeIfFull_of_not_post hpost]
  · have hpost : spoolBehaviour .post s.spoolSettings.mode = .stop := by
      obtain hmode | hmode := hmode <;> rw [hmode] <;> rfl
    have hstop : spoolBehaviour s.spool.state s.spoolSettings.mode = .stop := by rw [hstate]; exact hpost
    rw [offerRecord_of_stop hstop]
    refine ⟨fun hroom => ?_, fun hlast => ?_, fun hfull => if_neg (Nat.not_lt.mpr hfull)⟩
    · rw [if_pos (by omega), freezeIfFull_putEntries_of_room (by omega)]
    · rw [if_pos (by omega), freezeIfFull_putEntries_of_full hstate hpost (by omega)]
      rfl
  · have hbehaviour : spoolBehaviour s.spool.state s.spoolSettings.mode = .ring := by
      obtain ⟨hstate, hmode⟩ | ⟨hstate, hmode⟩ | ⟨hstate, hmode⟩ := hring <;> rw [hstate, hmode] <;> rfl
    rw [offerRecord_of_ring hbehaviour]
    exact ⟨fun hroom => if_pos hroom, fun hfull => if_neg (Nat.not_lt.mpr hfull)⟩

end Sys2Proof.Machine

/-! SUPPORT. The expiries of CAL and of the meters, the scan channel's stop, and the refill, slot by slot. -/

namespace Sys2Proof.Machine

/-! ### The scan channel's stop and the meters' expiries -/

/-- Settles O25: the stop's own branch. -/
theorem scanChannelStops : Obligations.ScanChannelStops := fun _ hreset hrun hcount =>
  congrArg Host.Outcome.next ((if_neg (Bool.eq_false_iff.mp hreset)).trans (if_pos ⟨hrun, hcount⟩))

/-- A meter's expiry, its oldest report at hand. -/
theorem takeMeterExpiry_of_due {m : Meter} {s : State} {b : BurstReport} {rest : List BurstReport} (hreset : s.inReset = false)
    (hdue : (meterChannel s m).due = b :: rest) :
    takeMeterExpiry m s = offerEvent .burst (some b.slot) (burstValue m b) (burstLift b (dropDue m s)) := by
  unfold takeMeterExpiry
  rw [if_neg (Bool.eq_false_iff.mp hreset), hdue]

theorem dropDue_a_of_due {s : State} {b : BurstReport} {rest : List BurstReport} (h : s.pace.meterA.due = b :: rest) :
    dropDue .a s = { s with pace := { s.pace with meterA := { s.pace.meterA with due := rest } } } :=
  congrArg (fun due => { s with pace := { s.pace with meterA := { s.pace.meterA with due := due } } })
    (congrArg List.tail h)

theorem dropDue_b_of_due {s : State} {b : BurstReport} {rest : List BurstReport} (h : s.pace.meterB.due = b :: rest) :
    dropDue .b s = { s with pace := { s.pace with meterB := { s.pace.meterB with due := rest } } } :=
  congrArg (fun due => { s with pace := { s.pace with meterB := { s.pace.meterB with due := due } } })
    (congrArg List.tail h)

theorem burstValue_a (b : BurstReport) :
    burstValue .a b = BitVec.ofNat 32 (b.liftEpochs * 65536 + b.liftAmount) := by
  refine congrArg (BitVec.ofNat 32) ?_
  show 0 * 2 ^ 24 + b.liftEpochs * 2 ^ 16 + b.liftAmount = b.liftEpochs * 65536 + b.liftAmount
  omega

theorem burstValue_b (b : BurstReport) :
    burstValue .b b = BitVec.ofNat 32 (16777216 + b.liftEpochs * 65536 + b.liftAmount) := rfl

/-- Settles O23: the oldest report leaves the meter, the lift is the Scheduler's, and the record follows in both cases. -/
theorem meterExpiryLifts : Obligations.MeterExpiryLifts := by
  intro s b rest hreset
  refine ⟨fun hdue => ?_, fun hdue => ?_⟩
  · refine congrArg Host.Outcome.next ((takeMeterExpiry_of_due (m := .a) hreset hdue).trans ?_)
    rw [dropDue_a_of_due hdue, burstValue_a]
    rfl
  · refine congrArg Host.Outcome.next ((takeMeterExpiry_of_due (m := .b) hreset hdue).trans ?_)
    rw [dropDue_b_of_due hdue, burstValue_b]
    rfl

/-! ### CAL's expiry -/

theorem takeWaitingExpiry_of_running {s : State} (h : s.monitor.cal.status = .running) :
    takeWaitingExpiry s =
      (let u := s.modPace fun b => { b with cal := { b.cal with due := false } }
      raiseNotice .calibrationDone
        (offerEvent .calibrationDone none (BitVec.ofNat 32 s.monitor.cal.requested)
          { u with monitor := { u.monitor with cal := { s.monitor.cal with status := .complete } } })) := if_pos h

theorem takeWaitingExpiry_of_not_running {s : State} (h : s.monitor.cal.status ≠ .running) :
    takeWaitingExpiry s = s.modPace fun b => { b with cal := { b.cal with due := false } } := if_neg h

theorem boundaryCal_of_lastCountNext {c : CalChannel} (h : LastCountNext c) :
    boundaryCal c = { c with count := c.reload, run := .stopped, due := true } := by
  obtain ⟨hrun, hcount, harmed⟩ := h
  have hcount' : boundaryCal c = countCal c := by
    unfold boundaryCal
    rw [harmed]
  exact hcount'.trans ((if_neg hrun).trans (if_pos hcount))

theorem openEarly_monitor (s : State) : (openEarly s).monitor = (openBoundary s).monitor := by
  unfold openEarly State.modPace
  dsimp only
  rw [decideRelease_touches, payOpened_touches]

/-- A state opened with a closing report, its CAL's waiting expiry then taken. -/
theorem modPace_opened_due {u : State} {c : CalChannel} (r : ClosingReport) (h : u.pace.cal = c) :
    ((u.modPace fun b => { b with opened := some r }).modPace fun b => { b with cal := { b.cal with due := false } }) =
      { u with pace := { u.pace with opened := some r, cal := { c with due := false } } } := by
  rw [← h]
  rfl

/-- The Scheduler's opening, in the words of the statements. -/
theorem epochOpened_paid (pie : Nat) (s : State) : headsPromoted (refilled (epochOpened pie s)) = payOpened pie s := by
  rw [epochOpened_eq, refilled_eq, headsPromoted_eq]
  rfl

theorem openEarly_eq (s : State) :
    openEarly s =
      (decideRelease (payOpened (nextPie s (s.pace.epoch + 1)) (openBoundary s))).modPace fun b =>
        { b with opened := some (closingReport (openBoundary s)) } := rfl

/-- The state in which CAL's expiry ahead of the close is taken. -/
theorem openEarly_taken {s : State} (h : LastCountNext s.pace.cal) :
    ((openEarly s).modPace fun b => { b with cal := { b.cal with due := false } }) =
      (let opened := boundaryOpened s
      let u := decideRelease (headsPromoted (refilled (epochOpened (pieOpened s) opened)))
      { u with
        pace :=
          { u.pace with
            opened := some (reportHanded opened)
            cal := { s.pace.cal with count := s.pace.cal.reload, run := .stopped, due := false } } }) := by
  have hcal : (decideRelease (payOpened (nextPie s (s.pace.epoch + 1)) (openBoundary s))).pace.cal =
      { s.pace.cal with count := s.pace.cal.reload, run := .stopped, due := true } := by
    rw [decideRelease_touches, payOpened_touches, ← boundaryCal_of_lastCountNext h]
    exact (openBoundary_calibration s).2.1
  dsimp only
  rw [boundaryOpened_eq, epochOpened_paid, pieOpened_eq, reportHanded_eq, openEarly_eq]
  exact modPace_opened_due _ hcal

/-- The boundary that CAL's expiry opens has the new epoch number. -/
theorem openedAhead_epoch (s : State) :
    (decideRelease (headsPromoted (refilled (epochOpened (pieOpened s) (boundaryOpened s))))).pace.epoch =
      s.pace.epoch + 1 := by
  rw [boundaryOpened_eq, epochOpened_paid, decideRelease_touches, payOpened_touches]
  exact (openBoundary_calibration s).2.2

/-- Settles O22: a waiting expiry is taken as it is; one ahead of the close opens the boundary first. -/
theorem calExpiryCompletes : Obligations.CalExpiryCompletes := by
  intro s hreset
  have hnot : ¬ s.inReset = true := Bool.eq_false_iff.mp hreset
  refine ⟨fun hdue => ?_, fun hdue hopened hlast => ?_, fun hdue hnone => ?_⟩
  · have htaken : takeCalExpiry s = takeWaitingExpiry s := (if_neg hnot).trans (if_pos hdue)
    exact ⟨fun hrunning => congrArg Host.Outcome.next (htaken.trans (takeWaitingExpiry_of_running hrunning)),
      fun hnotRunning => congrArg Host.Outcome.next (htaken.trans (takeWaitingExpiry_of_not_running hnotRunning))⟩
  · have hahead : expiryAhead s.pace = true := by
      unfold expiryAhead
      rw [hopened, (lastCountNext_iff _).mp hlast]
      rfl
    have htaken : takeCalExpiry s = takeWaitingExpiry (openEarly s) :=
      (if_neg hnot).trans ((if_neg (Bool.eq_false_iff.mp hdue)).trans (if_pos hahead))
    have hcal : (openEarly s).monitor.cal = s.monitor.cal := by
      rw [openEarly_monitor]
      exact (openBoundary_calibration s).1
    have hexec : exec .calExpiry s = .next (takeWaitingExpiry (openEarly s)) := congrArg Host.Outcome.next htaken
    refine ⟨?_, fun hrunning => ?_, fun hnotRunning => ?_⟩
    · dsimp only
      exact openedAhead_epoch s
    · rw [← hcal] at hrunning
      rw [hexec, takeWaitingExpiry_of_running hrunning, openEarly_taken hlast, hcal]
    · rw [← hcal] at hnotRunning
      rw [hexec, takeWaitingExpiry_of_not_running hnotRunning, openEarly_taken hlast]
  · have hahead : ¬ expiryAhead s.pace = true := by
      intro h
      unfold expiryAhead at h
      rw [Bool.and_eq_true, Option.isNone_iff_eq_none, ← lastCountNext_iff] at h
      exact hnone h
    exact congrArg Host.Outcome.next ((if_neg hnot).trans ((if_neg (Bool.eq_false_iff.mp hdue)).trans (if_neg hahead)))

/-! ### The refill -/

/-- Every slot of the payout and the contending set paid and clamped (R61, R62). -/
def paidOut (s : State) (i : SlotId) (x : Slot) : Slot :=
  if InPayout s i ∨ InContending s i then { x with balance := min ((s.slotPolicy i).cap : Int) (x.balance + paidTo s i) } else x

/-- The report of demands above the pie leaves the slots. -/
theorem overcommit_slots (c : Prop) [Decidable c] (v : BitVec 32) (u : State) :
    (if c then raiseNotice .overcommit (offerEvent .overcommit none v u) else u).slots = u.slots := by
  split
  · rw [raiseNotice_touches, offerEvent_touches]
  · rfl

theorem slot_eq_of_slots {s t : State} (h : t.slots = s.slots) (i : SlotId) : t.slot i = s.slot i := by
  unfold State.slot
  rw [h]

/-- A slot across the refill. -/
theorem slot_refilled (s : State) (i : SlotId) :
    (refilled s).slot i = { paidOut s i (s.slot i) with liftRemaining := (paidOut s i (s.slot i)).liftRemaining - 1 } := by
  have hpaid := slot_eachSlot (paidOut s) s i
  have hreport := slot_eq_of_slots
    (overcommit_slots (s.sched.pie < totalDemand s) (BitVec.ofNat 32 (totalDemand s)) (eachSlot (paidOut s) s)) i
  rw [← hpaid, ← hreport, ← slot_eachSlot fun _ x => { x with liftRemaining := x.liftRemaining - 1 }]
  rfl

theorem paidOut_of_in {s : State} {i : SlotId} (x : Slot) (h : InPayout s i ∨ InContending s i) :
    paidOut s i x = { x with balance := min ((s.slotPolicy i).cap : Int) (x.balance + paidTo s i) } := if_pos h

theorem paidOut_of_out {s : State} {i : SlotId} (x : Slot) (h : ¬ (InPayout s i ∨ InContending s i)) : paidOut s i x = x :=
  if_neg h

theorem balance_refilled_of_in {s : State} {i : SlotId} (h : InPayout s i ∨ InContending s i) :
    ((refilled s).slot i).balance = min ((s.slotPolicy i).cap : Int) ((s.slot i).balance + paidTo s i) := by
  rw [slot_refilled, paidOut_of_in _ h]

theorem liftRemaining_refilled (s : State) (i : SlotId) :
    ((refilled s).slot i).liftRemaining = (s.slot i).liftRemaining - 1 := by
  rw [slot_refilled]
  unfold paidOut
  split <;> rfl

/-- Payouts that fit the pie write no record. -/
theorem refilled_of_fit {s : State} (h : totalDemand s ≤ s.sched.pie) :
    refilled s = eachSlot (fun _ x => { x with liftRemaining := x.liftRemaining - 1 }) (eachSlot (paidOut s) s) :=
  congrArg (eachSlot fun _ x => { x with liftRemaining := x.liftRemaining - 1 }) (if_neg (Nat.not_lt.mpr h))

theorem paidTo_of_fit {s : State} (h : totalDemand s ≤ s.sched.pie) (i : SlotId) :
    paidTo s i =
      (if InPayout s i then demanded s i else 0) +
        if InContending s i then (s.slotPolicy i).weight * ((s.sched.pie - totalDemand s) / totalWeight s) else 0 := if_pos h

theorem paidTo_of_over {s : State} (h : s.sched.pie < totalDemand s) (i : SlotId) :
    paidTo s i = if InPayout s i then demanded s i * s.sched.pie / totalDemand s else 0 := if_neg (Nat.not_le.mpr h)

/-- Settles O21: a slot's balance across the refill, then the payout by the two sets and by whether the demands fit. -/
theorem boundaryPayout : Obligations.BoundaryPayout := by
  intro s
  dsimp only
  rw [← refilled_eq]
  refine ⟨rfl, fun hfit => ?_, fun i => ⟨liftRemaining_refilled s i, fun hout hcont => ?_, fun hfit hin hcont => ?_,
    fun hfit hin hcont => ?_, fun hfit hout hcont => ?_, fun hover hin => ?_, fun hover hout hcont => ?_⟩⟩
  · rw [refilled_of_fit hfit, eachSlot_eq, eachSlot_eq]
    exact ⟨rfl, rfl, rfl⟩
  · rw [slot_refilled, paidOut_of_out _ (not_or.mpr ⟨hout, hcont⟩)]
  · rw [balance_refilled_of_in (.inl hin), paidTo_of_fit hfit, if_pos hin, if_pos hcont]
  · rw [balance_refilled_of_in (.inl hin), paidTo_of_fit hfit, if_pos hin, if_neg hcont, Nat.add_zero]
  · rw [balance_refilled_of_in (.inr hcont), paidTo_of_fit hfit, if_neg hout, if_pos hcont, Nat.zero_add]
  · rw [balance_refilled_of_in (.inl hin), paidTo_of_over hover, if_pos hin]
  · rw [balance_refilled_of_in (.inr hcont), paidTo_of_over hover, if_neg hout]
    exact congrArg (min _) (Int.add_zero _)

end Sys2Proof.Machine

/-! SUPPORT. A step on an empty queue: the events posted are a rearrangement of those that wait or that the tick brings. -/

namespace Sys2Proof.Machine

/-! ### The order of posted events -/

theorem arrange_perm (n : Nat) (events : List Instr) : (arrange n events).Perm events := by
  fun_induction arrange n events with
  | case1 => exact .refl _
  | case2 => exact .refl _
  | case3 n c d rest tail ih =>
    have hplace : Config.choice n % (tail.length + 1) ≤ tail.length := Nat.le_of_lt_succ (Nat.mod_lt _ (Nat.succ_pos _))
    exact (List.perm_insertIdx c tail hplace).trans (ih.cons c)

theorem eventOrder_perm (n : Nat) (events : List Instr) : (eventOrder n events).Perm events :=
  ((arrange_perm n _).append_left _).trans (List.filter_append_perm _ events)

/-- A scan channel's stop among the events stands first. -/
theorem head_eventOrder {n : Nat} {events : List Instr} (h : .scanChannelStopped ∈ eventOrder n events) :
    (eventOrder n events).head? = some .scanChannelStopped := by
  have hstop : .scanChannelStopped ∈ events.filter fun c => decide (c = .scanChannelStopped) :=
    List.mem_filter.mpr ⟨(eventOrder_perm n events).mem_iff.mp h, decide_eq_true rfl⟩
  unfold eventOrder
  match hfilter : events.filter fun c => decide (c = .scanChannelStopped) with
  | [] => exact absurd (hfilter ▸ hstop) List.not_mem_nil
  | c :: rest =>
    have hc : c ∈ events.filter fun c => decide (c = .scanChannelStopped) := hfilter ▸ List.mem_cons_self
    rw [hfilter]
    exact congrArg some (of_decide_eq_true (List.mem_filter.mp hc).2)

/-! ### What waits, and what a tick brings -/

/-- The events that wait, one for each waiting report. -/
theorem dueEvents_eq (turn : SpoolTurn) (b : PaceBank) :
    dueEvents turn b =
      List.replicate b.meterA.due.length (.meterExpiry .a) ++ List.replicate b.meterB.due.length (.meterExpiry .b) ++
          (if b.cal.due = true then [.calExpiry] else []) ++
        (if b.opened ≠ none then [.epochBoundary turn] else []) := by
  unfold dueEvents
  simp only [List.map_const', Option.isSome_iff_ne_none]

theorem waits_iff (turn : SpoolTurn) (b : PaceBank) : Waits b ↔ dueEvents turn b ≠ [] := by
  rw [dueEvents_eq]
  simp only [ne_eq, List.append_eq_nil_iff, List.replicate_eq_nil_iff, List.length_eq_zero_iff, ite_eq_right_iff,
    List.cons_ne_nil, imp_false, Waits]
  rw [Classical.not_and_iff_not_or_not, Classical.not_and_iff_not_or_not, Classical.not_and_iff_not_or_not, Classical.not_not,
    Classical.not_not, or_assoc, or_assoc]

theorem expiryDue_iff (c : Channel) : expiryDue c = true ↔ CountComes c ∧ c.count ≤ 1 := by
  unfold expiryDue
  rw [Bool.and_eq_true, ← countComes_iff, decide_eq_true_iff]

theorem boundaryEvents_eq {turn : SpoolTurn} {b : PaceBank} (h : b.opened = none) :
    boundaryEvents turn b =
      if CountComes b.epochPair ∧ b.epochPair.count ≤ 1 then
        .epochBoundary turn :: (if LastCountNext b.cal then [.calExpiry] else [])
      else [] := by
  unfold boundaryEvents expiryAhead
  rw [h]
  simp only [expiryDue_iff, lastCountNext_iff, Option.isNone_none, Bool.true_and]

theorem scanEvents_eq (idle starve : ScanPlace) (c : Channel) :
    scanEvents idle starve c =
      if CountComes c ∧ c.count ≤ 1 then [.scanPass idle starve]
      else if CountComes c ∧ c.run = .stopping then [.scanChannelStopped]
      else [] := by
  unfold scanEvents
  simp only [expiryDue_iff, Bool.and_eq_true, ← countComes_iff, decide_eq_true_iff]

theorem tickHold_eq (c : Scheduler) :
    tickHold c = { c with holdTicks := c.holdTicks.map fun n => if n ≤ 1 then n else n - 1 } := by
  obtain ⟨_, _, _, _, _, _, ticks, _⟩ := c
  cases ticks with
  | none => rfl
  | some n =>
    by_cases hn : n ≤ 1
    · simp [tickHold, hn]
    · simp [tickHold, hn]

theorem tickState_eq (s : State) :
    tickState s =
      { s with
        sched := { s.sched with holdTicks := s.sched.holdTicks.map fun n => if n ≤ 1 then n else n - 1 }
        pace :=
          { s.pace with
            time := s.pace.time + 1
            holdSpan :=
              if s.sched.holdTicks ≠ none ∨ s.portT.link = .down then min 65535 (s.pace.holdSpan + 1) else s.pace.holdSpan
            epochPair := ticked s.pace.epochPair
            scan := ticked s.pace.scan } } := by
  unfold tickState
  simp only [tickHold_eq, ticked_eq, holdInForce_eq_true_iff]
  rfl

/-- A step on an empty queue where something waits. -/
theorem idle_of_waits {s : State} (hreset : s.inReset = false) (h : Waits s.pace) :
    idle s = postEvents (dueEvents (spoolTurnOf (Config.choice s.freeChoices)) s.pace) s := by
  unfold idle
  rw [if_neg (Bool.eq_false_iff.mp hreset)]
  match hdue : dueEvents (spoolTurnOf (Config.choice s.freeChoices)) s.pace with
  | [] => exact absurd hdue ((waits_iff _ _).mp h)
  | c :: rest => rfl

/-- A step on an empty queue where nothing waits: the tick, and its events in their order. -/
theorem idle_of_not_waits {s : State} (hreset : s.inReset = false) (h : ¬ Waits s.pace) (hpending : s.pending = []) :
    ∃ n k, idle s = { tickState s with pending := eventOrder n (tickEvents s), freeChoices := k } := by
  unfold idle
  rw [if_neg (Bool.eq_false_iff.mp hreset)]
  have hnone : dueEvents (spoolTurnOf (Config.choice s.freeChoices)) s.pace = [] := by
    rwa [waits_iff (spoolTurnOf (Config.choice s.freeChoices)), Classical.not_not] at h
  rw [hnone]
  match tickEvents s with
  | [] =>
    refine ⟨0, s.freeChoices, ?_⟩
    show tickState s = { tickState s with pending := [], freeChoices := s.freeChoices }
    rw [← hpending]
    rfl
  | c :: rest =>
    refine ⟨s.freeChoices + 3, s.freeChoices + 3 + (c :: rest).length, ?_⟩
    show postEvents (c :: rest) (tickState s) = _
    unfold postEvents
    have hticked : (tickState s).pending = [] := hpending
    rw [hticked]
    rfl

/-- Settles O2: a rearrangement of the waiting events; or the tick, with a rearrangement of what it brings. -/
theorem emptyQueueTick : Obligations.EmptyQueueTick := by
  intro s hpending
  have hstep : step s = .next (idle s) := by
    unfold step
    rw [hpending]
  rw [hstep]
  refine ⟨fun hreset => congrArg Host.Outcome.next (if_pos hreset), fun hreset hwaits => ?_, fun hreset hwaits => ?_⟩
  · refine ⟨idle s, spoolTurnOf (Config.choice s.freeChoices), rfl, ?_, ?_⟩
    · rw [idle_of_waits hreset hwaits, ← dueEvents_eq]
      unfold postEvents
      rw [hpending]
      exact eventOrder_perm _ _
    · rw [idle_of_waits hreset hwaits]
      rfl
  · obtain ⟨n, k, hidle⟩ := idle_of_not_waits hreset hwaits hpending
    have hopened : s.pace.opened = none := by
      refine Classical.byContradiction fun hopened => ?_
      exact hwaits (.inr (.inr (.inr hopened)))
    refine ⟨idle s, spoolTurnOf (Config.choice s.freeChoices), scanPlaceOf (Config.choice (s.freeChoices + 1)),
      scanPlaceOf (Config.choice (s.freeChoices + 2)), rfl, ?_, ?_, ?_⟩
    · rw [hidle, ← boundaryEvents_eq hopened, ← scanEvents_eq]
      simp only [← holdDue_iff]
      exact eventOrder_perm _ _
    · rw [hidle]
      exact head_eventOrder
    · rw [hidle, tickState_eq]

end Sys2Proof.Machine

/-! SUPPORT. What an epoch boundary leaves as it was: the close, the spool's step and the Scheduler's step, part by part. -/

namespace Sys2Proof.Machine

/-! ### The close -/

theorem seekStep_touches (x : Measurement) (s : State) :
    seekStep x s =
      { s with originQueue := (seekStep x s).originQueue, agent := (seekStep x s).agent, spool := (seekStep x s).spool
               monitor := (seekStep x s).monitor } := by
  unfold seekStep
  dsimp only
  split
  · rw [raiseNotice_touches, offerEvent_touches]; rfl
  · rfl

theorem lockedStep_touches (x : Measurement) (s : State) :
    lockedStep x s =
      { s with originQueue := (lockedStep x s).originQueue, agent := (lockedStep x s).agent, spool := (lockedStep x s).spool
               monitor := (lockedStep x s).monitor } := by
  unfold lockedStep
  split
  · rfl
  · split
    · rw [raiseNotice_touches, offerEvent_touches]; rfl
    · rfl

theorem runStep_touches (x : Measurement) (s : State) :
    runStep x s =
      { s with originQueue := (runStep x s).originQueue, agent := (runStep x s).agent, spool := (runStep x s).spool
               monitor := (runStep x s).monitor } := by
  unfold runStep
  split
  · split
    · exact seekStep_touches x s
    · exact lockedStep_touches x s
    · rfl
    · rfl
  · rfl

theorem silentStep_touches (x : Measurement) (s : State) :
    silentStep x s =
      { s with originQueue := (silentStep x s).originQueue, agent := (silentStep x s).agent
               spool := (silentStep x s).spool, monitor := (silentStep x s).monitor } := by
  unfold silentStep
  dsimp only
  split
  · rw [raiseNotice_touches, offerEvent_touches]; rfl
  · rfl

/-- A close samples the hold span; otherwise it changes spool, notices, origin queue and Monitor. -/
theorem closeEpoch_touches (x : Measurement) (s : State) :
    closeEpoch x s =
      { s with originQueue := (closeEpoch x s).originQueue, agent := (closeEpoch x s).agent
               spool := (closeEpoch x s).spool, monitor := (closeEpoch x s).monitor
               pace := { s.pace with holdSpan := 0 } } := by
  unfold closeEpoch State.modMonitor
  rw [silentStep_touches, runStep_touches]

/-- A close ends with the records. -/
theorem closeEpoch_monitor (x : Measurement) (s : State) : ∃ m, (closeEpoch x s).monitor = recordClose x m := ⟨_, rfl⟩

/-! ### The spool's steps -/

/-- From one state to the other only the spool, its part of each slot, notices and the origin queue differ. -/
def SpoolOnly (s t : State) : Prop :=
  (∃ q a x v, t = { s with originQueue := q, agent := a, spool := x, slots := v }) ∧
    ∀ i, ∃ y, t.slot i = { s.slot i with spool := y }

namespace SpoolOnly

variable {s t u : State}

theorem refl (s : State) : SpoolOnly s s := ⟨⟨_, _, _, _, rfl⟩, fun _ => ⟨_, rfl⟩⟩

theorem trans (hst : SpoolOnly s t) (htu : SpoolOnly t u) : SpoolOnly s u := by
  obtain ⟨⟨_, _, _, _, rfl⟩, hslot⟩ := hst
  obtain ⟨⟨_, _, _, _, hu⟩, hslot'⟩ := htu
  refine ⟨⟨_, _, _, _, hu⟩, fun i => ?_⟩
  obtain ⟨y, hy⟩ := hslot i
  obtain ⟨y', hy'⟩ := hslot' i
  exact ⟨y', by rw [hy', hy]⟩

/-- Spool, notices and origin queue alone differ. -/
theorem of_eq (h : ∃ q a x, t = { s with originQueue := q, agent := a, spool := x }) : SpoolOnly s t := by
  obtain ⟨q, a, x, rfl⟩ := h
  exact ⟨⟨_, _, _, _, rfl⟩, fun _ => ⟨_, rfl⟩⟩

theorem modSpool (g : Spool → Spool) : SpoolOnly s (s.modSpool g) := of_eq ⟨_, _, _, rfl⟩

theorem raiseNotice (k : NoticeKind) : SpoolOnly s (raiseNotice k s) := of_eq ⟨_, _, _, raiseNotice_touches k s⟩

theorem offerRecord (e : SpoolEntry) : SpoolOnly s (offerRecord e s).1 := of_eq ⟨_, _, _, offerRecord_touches e s⟩

theorem modSlot (i : SlotId) (f : Slot → SpoolSlot) : SpoolOnly s (s.modSlot i fun x => { x with spool := f x }) := by
  refine ⟨⟨_, _, _, _, rfl⟩, fun j => ?_⟩
  obtain rfl | hj := Decidable.em (j = i)
  · rw [slot_modSlot_self]
    exact ⟨_, rfl⟩
  · rw [slot_modSlot_other s i j _ hj]
    exact ⟨_, rfl⟩

theorem mapSlots {g : SlotId → Slot → Slot} (hg : ∀ i x, ∃ y, g i x = { x with spool := y }) : SpoolOnly s (s.mapSlots g) :=
  ⟨⟨_, _, _, _, rfl⟩, fun i => by rw [slot_mapSlots]; exact hg i _⟩

theorem foldl {β : Type} {f : State → β → State} (hf : ∀ v b, SpoolOnly v (f v b)) (l : List β) :
    SpoolOnly s (l.foldl f s) := by
  induction l generalizing s with
  | nil => exact refl s
  | cons b rest ih => exact (hf s b).trans ih

theorem countBatch (i : SlotId) : SpoolOnly s (countBatch i s) := by
  unfold Machine.countBatch
  split
  · split
    · exact (modSpool _).trans (raiseNotice _)
    · exact modSpool _
  · exact refl s

theorem offerSlotRecord (i : SlotId) : SpoolOnly s (offerSlotRecord i s) := by
  have hend (w : State × Bool) (hw : SpoolOnly s w.1) :
      SpoolOnly s
        (if w.2 then Machine.countBatch i w.1
        else w.1.modSlot i fun y => { y with spool := { y.spool with fullNext := true } }) := by
    split
    · exact hw.trans (countBatch i)
    · exact hw.trans (modSlot i _)
  exact hend _ ((modSlot i _).trans (offerRecord _))

theorem spoolSlotStep (i : SlotId) : SpoolOnly s (spoolSlotStep s i) := by
  unfold Machine.spoolSlotStep
  split
  · exact refl s
  · split
    · split
      · exact (modSlot i _).trans (offerSlotRecord i)
      · exact modSlot i _
    · exact refl s

theorem spoolSummaryStep (c : ClosingSummary) : SpoolOnly s (spoolSummaryStep c s).1 := by
  unfold Machine.spoolSummaryStep
  split
  · exact refl s
  · split
    · exact (modSpool _).trans (offerRecord _)
    · dsimp only
      exact modSpool _

theorem spoolMarkStep (written : Bool) : SpoolOnly s (spoolMarkStep written s) := by
  unfold Machine.spoolMarkStep
  generalize (if written then 1 else 0) = k
  split
  · exact modSpool _
  · split
    · exact (modSpool _).trans (offerRecord _)
    · exact modSpool _

theorem spoolBoundaryStep (c : ClosingSummary) : SpoolOnly s (spoolBoundaryStep c s) := by
  unfold Machine.spoolBoundaryStep
  exact ((spoolSummaryStep c).trans (foldl (fun _ => spoolSlotStep) _)).trans (spoolMarkStep _)

theorem spoolAt (here turn : SpoolTurn) (c : ClosingSummary) : SpoolOnly s (spoolAt here turn c s) := by
  unfold Machine.spoolAt
  split
  · exact spoolBoundaryStep c
  · exact refl s

theorem setFullNext : SpoolOnly s (setFullNext s) := mapSlots fun _ _ => ⟨_, rfl⟩

theorem applySpoolMode (old : SpoolSettings) : SpoolOnly s (applySpoolMode old s) := by
  unfold Machine.applySpoolMode
  split
  · exact refl s
  · exact (modSpool _).trans setFullNext

theorem applySpoolCompression (old : SpoolSettings) : SpoolOnly s (applySpoolCompression old s) := by
  unfold Machine.applySpoolCompression
  split
  · exact refl s
  · exact setFullNext

theorem applySpoolBatching (old : Image) : SpoolOnly s (applySpoolBatching old s) :=
  mapSlots fun i x => by
    split
    · exact ⟨_, rfl⟩
    · exact ⟨_, rfl⟩

theorem applySpool (old : Image) : SpoolOnly s (applySpool old s) :=
  ((((applySpoolMode old.spool).trans (applySpoolCompression old.spool)).trans (modSpool _)).trans
    (applySpoolBatching old)).trans
    ((of_eq ⟨_, _, _, applySpoolCapacity_touches old.spool _⟩).trans
      (of_eq ⟨_, _, _, applySpoolWatermark_touches old.spool _ _⟩))

end SpoolOnly

end Sys2Proof.Machine

/-! SUPPORT. The epoch boundary: what its first step changes, what it leaves of every slot, and the whole. -/

namespace Sys2Proof.Machine

/-! ### What a boundary leaves of a slot -/

/-- What a boundary leaves of a slot: who holds it, its violations, its idle flag, its admissions. -/
def SlotKept (x y : Slot) : Prop :=
  y.state = x.state ∧ y.address = x.address ∧ y.gen = x.gen ∧ y.violations = x.violations ∧ y.idleFlag = x.idleFlag ∧
    y.counters.admitted = x.counters.admitted

theorem SlotKept.refl (x : Slot) : SlotKept x x := ⟨rfl, rfl, rfl, rfl, rfl, rfl⟩

theorem SlotKept.trans {x y z : Slot} (hxy : SlotKept x y) (hyz : SlotKept y z) : SlotKept x z := by
  obtain ⟨hstate, haddress, hgen, hviolations, hflag, hadmitted⟩ := hxy
  obtain ⟨hstate', haddress', hgen', hviolations', hflag', hadmitted'⟩ := hyz
  exact ⟨hstate'.trans hstate, haddress'.trans haddress, hgen'.trans hgen, hviolations'.trans hviolations,
    hflag'.trans hflag, hadmitted'.trans hadmitted⟩

/-- A boundary's step leaves every slot in these. -/
def SlotsKept (s t : State) : Prop := ∀ i, SlotKept (s.slot i) (t.slot i)

namespace SlotsKept

variable {s t u : State}

theorem trans (hst : SlotsKept s t) (htu : SlotsKept t u) : SlotsKept s u := fun i => (hst i).trans (htu i)

theorem of_slots (h : t.slots = s.slots) : SlotsKept s t := fun i => slot_eq_of_slots h i ▸ SlotKept.refl _

theorem of_spoolOnly (h : SpoolOnly s t) : SlotsKept s t := fun i => by
  obtain ⟨y, hy⟩ := h.2 i
  rw [hy]
  exact .refl _

theorem mapSlots {g : SlotId → Slot → Slot} (hg : ∀ i x, SlotKept x (g i x)) : SlotsKept s (s.mapSlots g) := fun i => by
  rw [slot_mapSlots]
  exact hg i _

theorem modSlot (i : SlotId) {g : Slot → Slot} (hg : ∀ x, SlotKept x (g x)) : SlotsKept s (s.modSlot i g) := fun j => by
  obtain rfl | hj := Decidable.em (j = i)
  · rw [slot_modSlot_self]
    exact hg _
  · rw [slot_modSlot_other s i j _ hj]
    exact .refl _

theorem decideRelease : SlotsKept s (decideRelease s) := by
  obtain hnone | ⟨i, h, _, _, _, hrelease⟩ := decideRelease_cases s
  · rw [hnone]
    exact of_slots rfl
  · rw [hrelease]
    have hcharged : SlotsKept s (s.modSlot i (chargeSlot (headCost s h) h.ex.length)) := modSlot i fun x => .refl x
    exact hcharged.trans (of_slots rfl)

theorem closeEpoch (x : Measurement) : SlotsKept s (closeEpoch x s) := of_slots (by rw [closeEpoch_touches])

theorem payBalances : SlotsKept s (payBalances s) := mapSlots fun i x => by
  split
  · exact .refl x
  · exact .refl x

theorem refill : SlotsKept s (refill s) := by
  unfold Machine.refill lowerLifts
  exact (payBalances.trans (of_slots (by rw [reportOvercommit_touches]))).trans (mapSlots fun _ x => .refl x)

theorem openEpoch (pie : Nat) : SlotsKept s (openEpoch pie s) := by
  unfold Machine.openEpoch
  have hopened : SlotsKept s (s.mapSlots fun _ x => { x with releasedEpoch := 0 }) := mapSlots fun _ x => .refl x
  exact hopened.trans (of_slots rfl)

theorem payOpened (pie : Nat) : SlotsKept s (payOpened pie s) := by
  unfold Machine.payOpened
  exact ((openEpoch pie).trans refill).trans (mapSlots fun _ x => .refl x)

theorem schedulerBoundary (turn : SpoolTurn) (closing : EpochNo) (pie : Nat) :
    SlotsKept s (schedulerBoundary turn closing pie s) := by
  unfold Machine.schedulerBoundary
  exact (((((closeEpoch _).trans (of_spoolOnly (SpoolOnly.spoolAt _ _ _))).trans (payOpened _)).trans
    (of_spoolOnly (SpoolOnly.spoolAt _ _ _))).trans decideRelease).trans (of_spoolOnly (SpoolOnly.spoolAt _ _ _))

theorem reported (e : EventKind) (slot : Option SlotId) (value : BitVec 32) (k : NoticeKind) :
    SlotsKept s (raiseNotice k (offerEvent e slot value s)) := of_slots (by rw [raiseNotice_touches, offerEvent_touches])

theorem applyOwners (old : Image) : SlotsKept s (applyOwners old s) := by
  unfold Machine.applyOwners
  dsimp only
  generalize hmonitor : (if monitorPolicyChanged old s.policy.active then s.modMonitor applyMonitor else s) = v
  have hslots : v.slots = s.slots := by
    rw [← hmonitor]
    split <;> rfl
  have hclamp : SlotsKept v (clampBalances v) := mapSlots fun _ x => .refl x
  have hscan : SlotsKept (clampBalances v)
      ((clampBalances v).modPace fun b => { b with scan := applyScan s.paceSettings b.scan }) := of_slots rfl
  exact (((of_slots hslots).trans hclamp).trans hscan).trans (of_spoolOnly (SpoolOnly.applySpool old))

theorem applyCommit : SlotsKept s (applyCommit s) := by
  unfold Machine.applyCommit
  have hactive : SlotsKept s (activateStaged s) := of_slots rfl
  exact (hactive.trans (applyOwners _)).trans (reported _ _ _ _)

theorem openBoundary : SlotsKept s (openBoundary s) := by
  have happly (v : State) : SlotsKept v (applyIfPending v) := by
    unfold applyIfPending
    split
    · exact applyCommit
    · exact of_slots rfl
  have hturned : SlotsKept s (s.modPace (turnEpoch s.paceSettings)) := of_slots rfl
  exact (hturned.trans (happly _)).trans (of_slots rfl)

theorem epochBoundary (turn : SpoolTurn) : SlotsKept s (epochBoundary turn s) := by
  unfold Machine.epochBoundary
  split
  · exact of_slots rfl
  · split
    · unfold closeOpened
      have hopened (v : State) : SlotsKept v (v.modPace fun b => { b with opened := none }) := of_slots rfl
      exact ((hopened s).trans (closeEpoch _)).trans (of_spoolOnly (SpoolOnly.spoolBoundaryStep _))
    · exact openBoundary.trans (schedulerBoundary _ _ _)

end SlotsKept

/-! ### The boundary's first step -/

/-- An apply changes the policy's two images' roles, and of the Pace Bank the scan channel alone. -/
theorem applyIfPending_policy (s : State) :
    (applyIfPending s).policy =
      { s.policy with
        active := if s.policy.commitPending then s.policy.staged else s.policy.active, commitPending := false } := by
  unfold applyIfPending
  by_cases hpending : s.policy.commitPending = true
  · rw [if_pos hpending, if_pos hpending]
    unfold applyCommit
    rw [raiseNotice_touches, offerEvent_touches, applyOwners_touches]
    rfl
  · rw [if_neg hpending, if_neg hpending, ← Bool.eq_false_iff.mpr hpending]

theorem applyOwners_pace (old : Image) (s : State) :
    (applyOwners old s).pace = { s.pace with scan := applyScan s.paceSettings s.pace.scan } := by
  unfold applyOwners
  rw [applySpool_touches]
  dsimp only
  split <;> rfl

theorem applyCommit_pace (s : State) :
    (applyCommit s).pace = { s.pace with scan := applyScan (activateStaged s).paceSettings s.pace.scan } := by
  have howners : (applyCommit s).pace = (applyOwners s.policy.active (activateStaged s)).pace := by
    unfold applyCommit
    rw [raiseNotice_touches, offerEvent_touches]
  rw [howners, applyOwners_pace]
  rfl

theorem applyIfPending_pace (s : State) : ∃ x, (applyIfPending s).pace = { s.pace with scan := x } := by
  unfold applyIfPending
  by_cases hpending : s.policy.commitPending = true
  · rw [if_pos hpending, applyCommit_pace]
    exact ⟨_, rfl⟩
  · rw [if_neg hpending]
    exact ⟨s.pace.scan, rfl⟩

/-- The accumulators of the closing epoch. -/
def Accumulated (m m' : Monitor) : Prop := m'.completed = m.completed ∧ m'.count = m.count ∧ m'.latencySum = m.latencySum

theorem applyMonitor_accumulated (m : Monitor) : Accumulated m (applyMonitor m) := by
  unfold applyMonitor
  split <;> exact ⟨rfl, rfl, rfl⟩

theorem applyOwners_accumulated (old : Image) (s : State) : Accumulated s.monitor (applyOwners old s).monitor := by
  unfold applyOwners
  rw [applySpool_touches]
  dsimp only
  split
  · exact applyMonitor_accumulated _
  · exact ⟨rfl, rfl, rfl⟩

theorem applyCommit_accumulated (s : State) : Accumulated s.monitor (applyCommit s).monitor := by
  have howners : (applyCommit s).monitor = (applyOwners s.policy.active (activateStaged s)).monitor := by
    unfold applyCommit
    rw [raiseNotice_touches, offerEvent_touches]
  rw [howners]
  exact applyOwners_accumulated s.policy.active (activateStaged s)

theorem openBoundary_accumulated (s : State) : Accumulated s.monitor (openBoundary s).monitor := by
  have happly (v : State) : Accumulated v.monitor (applyIfPending v).monitor := by
    unfold applyIfPending
    split
    · exact applyCommit_accumulated v
    · exact ⟨rfl, rfl, rfl⟩
  exact happly (s.modPace (turnEpoch s.paceSettings))

theorem openBoundary_policy (s : State) :
    (openBoundary s).policy =
      { s.policy with
        active := if s.policy.commitPending then s.policy.staged else s.policy.active, commitPending := false } :=
  applyIfPending_policy _

/-- The Pace Bank after the boundary's first step: the epoch turned, the meters loaded under the new settings, CAL counted. -/
theorem openBoundary_pace (s : State) :
    ∃ x, (openBoundary s).pace =
      { turnEpoch s.paceSettings s.pace with
        scan := x
        meterA := reloadMeter (openBoundary s).policy.active.pace.meterA s.pace.meterA
        meterB := reloadMeter (openBoundary s).policy.active.pace.meterB s.pace.meterB
        cal := boundaryCal s.pace.cal } := by
  obtain ⟨x, hpace⟩ := applyIfPending_pace (s.modPace (turnEpoch s.paceSettings))
  have hopened : (openBoundary s).pace =
      (let p := (applyIfPending (s.modPace (turnEpoch s.paceSettings))).pace
      { p with
        meterA := reloadMeter (openBoundary s).policy.active.pace.meterA p.meterA
        meterB := reloadMeter (openBoundary s).policy.active.pace.meterB p.meterB
        cal := boundaryCal p.cal }) := rfl
  refine ⟨x, hopened.trans ?_⟩
  rw [hpace]
  rfl

theorem reloadMeter_of_bound {c : MeterSettings} {i : SlotId} (m : MeterChannel) (h : c.binding = some i) :
    (reloadMeter c m).run = .running ∧ (reloadMeter c m).count = c.threshold := by
  unfold reloadMeter
  rw [h]
  exact ⟨rfl, rfl⟩

theorem reloadMeter_of_unbound {c : MeterSettings} (m : MeterChannel) (h : c.binding = none) :
    (reloadMeter c m).run = .stopped := by
  unfold reloadMeter
  rw [h]

/-! ### The boundary after its first step -/

/-- A decision changes slots, the released list, pie used, ring pointers and the release slot. -/
theorem decideRelease_eq (s : State) :
    ∃ slots released used feed live study bulk frame,
      decideRelease s =
        { s with
          slots := slots, tracker := { s.tracker with released := released }, releaseSlot := frame
          sched :=
            { s.sched with pieUsed := used, ringFeed := feed, ringLive := live, ringStudy := study, ringBulk := bulk } } := by
  obtain hnone | ⟨i, h, _, _, _, hrelease⟩ := decideRelease_cases s
  · exact ⟨_, _, _, _, _, _, _, _, hnone⟩
  · rw [hrelease]
    unfold releaseHead setRingPointer
    cases (s.slotPolicy i).cls <;> exact ⟨_, _, _, _, _, _, _, _, rfl⟩

/-- From the close to the end of a boundary that fixes this pie. -/
def Opened (pie : Nat) (s t : State) : Prop :=
  ∃ queue agent spool slots released used feed live study bulk frame,
    t =
      { s with
        originQueue := queue, agent := agent, spool := spool, slots := slots
        tracker := { s.tracker with released := released }, releaseSlot := frame
        sched :=
          { s.sched with
            pie := pie, pieUsed := used, ringFeed := feed, ringLive := live, ringStudy := study, ringBulk := bulk } }

theorem opened_payOpened (pie : Nat) (s : State) : Opened pie s (payOpened pie s) := by
  have hsched : (payOpened pie s).sched = { s.sched with pie := pie, pieUsed := 0 } := by
    have hrefill := refill_touches (openEpoch pie s)
    unfold payOpened
    rw [hrefill]
    rfl
  rw [payOpened_touches, hsched]
  exact ⟨_, _, _, _, _, _, _, _, _, _, _, rfl⟩

theorem Opened.spoolOnly {pie : Nat} {s t u : State} (h : Opened pie s t) (htu : SpoolOnly t u) : Opened pie s u := by
  obtain ⟨_, _, _, _, _, _, _, _, _, _, _, rfl⟩ := h
  obtain ⟨⟨_, _, _, _, hu⟩, _⟩ := htu
  exact ⟨_, _, _, _, _, _, _, _, _, _, _, hu⟩

theorem Opened.of_spoolOnly {pie : Nat} {s t u : State} (hst : SpoolOnly s t) (h : Opened pie t u) : Opened pie s u := by
  obtain ⟨⟨_, _, _, _, rfl⟩, _⟩ := hst
  obtain ⟨_, _, _, _, _, _, _, _, _, _, _, hu⟩ := h
  exact ⟨_, _, _, _, _, _, _, _, _, _, _, hu⟩

theorem Opened.decideRelease {pie : Nat} {s t : State} (h : Opened pie s t) : Opened pie s (decideRelease t) := by
  obtain ⟨_, _, _, _, _, _, _, _, _, _, _, rfl⟩ := h
  obtain ⟨_, _, _, _, _, _, _, _, ht⟩ := decideRelease_eq _
  exact ⟨_, _, _, _, _, _, _, _, _, _, _, ht⟩

theorem opened_schedulerBoundary (turn : SpoolTurn) (closing : EpochNo) (pie : Nat) (s : State) :
    Opened pie (closeEpoch (measure closing (closingReport s) s) s) (schedulerBoundary turn closing pie s) := by
  unfold schedulerBoundary
  exact (((Opened.of_spoolOnly (SpoolOnly.spoolAt _ _ _) (opened_payOpened pie _)).spoolOnly
    (SpoolOnly.spoolAt _ _ _)).decideRelease).spoolOnly (SpoolOnly.spoolAt _ _ _)

/-! ### The boundary in the words of the statements -/

theorem boundaryTaken_eq {turn : SpoolTurn} {s : State} (hreset : s.inReset = false) :
    boundaryTaken turn s = epochBoundary turn s := by
  unfold epochBoundary
  rw [if_neg (Bool.eq_false_iff.mp hreset)]
  unfold boundaryTaken openedClosed boundaryClosed closeOpened schedulerBoundary spoolAt
  simp only [judged_eq, closed_eq, summarized_eq, reportHanded_eq, spoolAtBoundary_eq, epochOpened_paid, pieOpened_eq,
    boundaryOpened_eq]
  rfl

/-- The rest of a boundary that stands opened. -/
theorem closeOpened_eq (r : ClosingReport) (s : State) :
    ∃ queue agent spool slots m,
      closeOpened r s =
        { s with
          originQueue := queue, agent := agent, spool := spool, slots := slots
          monitor := recordClose (measure (s.pace.epoch - 1) r s) m, pace := { s.pace with opened := none, holdSpan := 0 } } := by
  unfold closeOpened
  dsimp only
  generalize measure (s.pace.epoch - 1) r s = x
  obtain ⟨m, hmonitor⟩ := closeEpoch_monitor x (s.modPace fun b => { b with opened := none })
  obtain ⟨⟨_, _, _, _, hspool⟩, _⟩ := SpoolOnly.spoolBoundaryStep (s := closeEpoch x (s.modPace fun b => { b with opened := none }))
    (summaryOf x (closeEpoch x (s.modPace fun b => { b with opened := none })).monitor)
  rw [hspool, closeEpoch_touches, hmonitor]
  exact ⟨_, _, _, _, _, rfl⟩

/-- A boundary that closes and opens in one, from its first step on. -/
theorem schedulerBoundary_eq (turn : SpoolTurn) (closing : EpochNo) (pie : Nat) (s : State) :
    ∃ queue agent spool slots m released used feed live study bulk frame,
      schedulerBoundary turn closing pie s =
        { s with
          originQueue := queue, agent := agent, spool := spool, slots := slots
          monitor := recordClose (measure closing (closingReport s) s) m, pace := { s.pace with holdSpan := 0 }
          tracker := { s.tracker with released := released }, releaseSlot := frame
          sched :=
            { s.sched with
              pie := pie, pieUsed := used, ringFeed := feed, ringLive := live, ringStudy := study, ringBulk := bulk } } := by
  obtain ⟨_, _, _, _, _, _, _, _, _, _, _, hopened⟩ := opened_schedulerBoundary turn closing pie s
  obtain ⟨m, hmonitor⟩ := closeEpoch_monitor (measure closing (closingReport s) s) s
  rw [hopened, closeEpoch_touches, hmonitor]
  exact ⟨_, _, _, _, _, _, _, _, _, _, _, _, rfl⟩

theorem epochBoundary_of_opened {turn : SpoolTurn} {s : State} {r : ClosingReport} (hreset : s.inReset = false)
    (h : s.pace.opened = some r) : epochBoundary turn s = closeOpened r s := by
  unfold epochBoundary
  rw [if_neg (Bool.eq_false_iff.mp hreset), h]

theorem epochBoundary_of_closed {turn : SpoolTurn} {s : State} (hreset : s.inReset = false) (h : s.pace.opened = none) :
    epochBoundary turn s = schedulerBoundary turn s.pace.epoch (nextPie s (s.pace.epoch + 1)) (openBoundary s) := by
  unfold epochBoundary
  rw [if_neg (Bool.eq_false_iff.mp hreset), h]

theorem nextPie_eq (s : State) (e : EpochNo) :
    nextPie s e =
      if s.monitor.cal.status = .running ∧ (e - s.monitor.cal.firstEpoch).toNat < s.monitor.cal.requested then
        s.monitor.cal.budget
      else offer s := by
  unfold nextPie isCalEpoch calHolds ageOf
  simp only [Bool.and_eq_true, decide_eq_true_iff]

/-- Settles O20: the boundary is the one its words build; then the close of one that stands opened, or the whole, field by field. -/
theorem epochBoundaryOpens : Obligations.EpochBoundaryOpens := by
  intro turn s hreset
  refine ⟨epochBoundary turn s, rfl, (boundaryTaken_eq hreset).symm, ?_⟩
  have hkept : SlotsKept s (epochBoundary turn s) := SlotsKept.epochBoundary turn
  cases hopened : s.pace.opened with
  | some r =>
    obtain ⟨queue, agent, spool, slots, m, hclosed⟩ := closeOpened_eq r s
    rw [epochBoundary_of_opened hreset hopened, hclosed] at hkept ⊢
    exact ⟨rfl, rfl, rfl, rfl, rfl, rfl, rfl, rfl, rfl, rfl, rfl, rfl, rfl, rfl, rfl, rfl, rfl, rfl, rfl, rfl, hkept,
      fun r' hr => Option.some.inj hr ▸ ⟨rfl, rfl, rfl, rfl, rfl, rfl, rfl⟩, fun hnone => nomatch hnone⟩
  | none =>
    obtain ⟨queue, agent, spool, slots, m, released, used, feed, live, study, bulk, frame, hwhole⟩ :=
      schedulerBoundary_eq turn s.pace.epoch (nextPie s (s.pace.epoch + 1)) (openBoundary s)
    rw [epochBoundary_of_closed hreset hopened, hwhole] at hkept ⊢
    have hpolicy := openBoundary_policy s
    obtain ⟨hcompleted, hcount, hlatency⟩ := openBoundary_accumulated s
    obtain ⟨scan, hpace⟩ := openBoundary_pace s
    obtain ⟨queue', agent', slots', monitor', pace', spool', policy', hfirst⟩ : ∃ queue' agent' slots' monitor' pace' spool' policy',
        openBoundary s =
          { s with originQueue := queue', agent := agent', slots := slots', monitor := monitor', pace := pace'
                   spool := spool', policy := policy' } := ⟨_, _, _, _, _, _, _, openBoundary_touches s⟩
    rw [hfirst] at hpolicy hcompleted hcount hlatency hpace hkept ⊢
    dsimp only at hpolicy hcompleted hcount hlatency hpace
    rw [nextPie_eq]
    subst hpace
    exact ⟨rfl, rfl, rfl, rfl, hcompleted, hcount, hlatency, rfl, rfl, hopened, rfl, rfl, rfl, rfl, rfl, rfl, rfl, rfl, rfl, rfl,
      hkept, fun r hr => (nomatch hr), fun _ =>
        ⟨rfl, rfl, rfl, hpolicy, rfl, rfl, rfl, fun i hi => reloadMeter_of_bound _ hi, fun hi => reloadMeter_of_unbound _ hi,
          fun i hi => reloadMeter_of_bound _ hi, fun hi => reloadMeter_of_unbound _ hi⟩⟩

end Sys2Proof.Machine

/-! SUPPORT. The Tracker's walk as one list function, and what a scan pass leaves of every slot. -/

namespace Sys2Proof.Machine

/-! ### The walk of the released list -/

/-- A record's age in epochs (R94). -/
abbrev ageIn (s : State) (r : OpenRecord) : Nat := (s.pace.epoch - r.releaseEpoch).toNat

/-- The record is old enough to be orphaned (R96). -/
abbrev OrphanAge (s : State) (r : OpenRecord) : Prop :=
  s.policy.active.part.staleLimit + s.policy.active.part.orphanLimit ≤ ageIn s r

/-- A record after a walk's change to STALE, where its age asks for it. -/
def turned (s : State) (r : OpenRecord) : OpenRecord :=
  if s.policy.active.part.staleLimit ≤ ageIn s r then { r with state := .stale } else r

/-- What a walk makes of a record: nothing at both limits, otherwise the record, STALE at the stale limit. -/
def walkOutcome (s : State) (r : OpenRecord) : Option OpenRecord := if OrphanAge s r then none else some (turned s r)

theorem turned_key (s : State) (r : OpenRecord) : (turned s r).ex.key = r.ex.key := by
  unfold turned
  split <;> rfl

/-- The visit to one record, on the list alone. -/
def visitList (s : State) (r : OpenRecord) (l : List OpenRecord) : List OpenRecord :=
  let m := if TurnsStale s r then l.map fun x => if x.ex.key = r.ex.key then { x with state := .stale } else x else l
  if OrphanAge s r then m.eraseP fun x => decide (x.ex.key = r.ex.key) else m

/-- What a record's age and a walk's limits are read from. -/
def SameLimits (s t : State) : Prop := t.policy.active.part = s.policy.active.part ∧ t.pace.epoch = s.pace.epoch

theorem visitList_of_sameLimits {s t : State} (h : SameLimits s t) (r : OpenRecord) : visitList t r = visitList s r := by
  obtain ⟨hpart, hepoch⟩ := h
  unfold visitList TurnsStale OrphanAge ageIn
  rw [hpart, hepoch]

theorem orphanAge_of_sameLimits {s t : State} (h : SameLimits s t) (r : OpenRecord) : OrphanAge t r ↔ OrphanAge s r := by
  obtain ⟨hpart, hepoch⟩ := h
  unfold OrphanAge ageIn
  rw [hpart, hepoch]

theorem walkOutcome_of_sameLimits {s t : State} (h : SameLimits s t) : walkOutcome t = walkOutcome s := by
  obtain ⟨hpart, hepoch⟩ := h
  unfold walkOutcome turned OrphanAge ageIn
  rw [hpart, hepoch]

/-- A visit changes the slots, the spool, notices and the origin queue, and the Tracker by the list function and the count. -/
theorem visited_touches (s : State) (r : OpenRecord) :
    visited s r =
      { s with
        originQueue := (visited s r).originQueue, agent := (visited s r).agent, spool := (visited s r).spool
        slots := (visited s r).slots
        tracker :=
          { s.tracker with
            released := visitList s r s.tracker.released
            orphaned := if OrphanAge s r then s.tracker.orphaned + 1 else s.tracker.orphaned } } := by
  unfold visited visitList
  dsimp only
  by_cases hstale : TurnsStale s r
  · rw [if_pos hstale, if_pos hstale, offerEvent_touches]
    by_cases hgen : generationTest s r.ex = true
    · rw [if_pos hgen]
      by_cases horphan : OrphanAge s r
      · rw [if_pos horphan, if_pos horphan, if_pos horphan]; rfl
      · rw [if_neg horphan, if_neg horphan, if_neg horphan]; rfl
    · rw [if_neg hgen]
      by_cases horphan : OrphanAge s r
      · rw [if_pos horphan, if_pos horphan, if_pos horphan]; rfl
      · rw [if_neg horphan, if_neg horphan, if_neg horphan]; rfl
  · rw [if_neg hstale, if_neg hstale]
    by_cases horphan : OrphanAge s r
    · rw [if_pos horphan, if_pos horphan, if_pos horphan]; rfl
    · rw [if_neg horphan, if_neg horphan, if_neg horphan]

theorem visited_sameLimits (s : State) (r : OpenRecord) : SameLimits s (visited s r) := by
  rw [visited_touches]
  exact ⟨rfl, rfl⟩

/-- The walk's list and its count, from any state of these limits. -/
theorem foldl_visited_tracker {s : State} (l : List OpenRecord) {t : State} (h : SameLimits s t) :
    (l.foldl visited t).tracker =
      { t.tracker with
        released := l.foldl (fun m r => visitList s r m) t.tracker.released
        orphaned := t.tracker.orphaned + BitVec.ofNat 32 (l.countP fun r => decide (OrphanAge s r)) } := by
  induction l generalizing t with
  | nil =>
    have hzero : t.tracker.orphaned + BitVec.ofNat 32 0 = t.tracker.orphaned := BitVec.add_zero _
    exact (congrArg (fun o => { t.tracker with orphaned := o }) hzero).symm
  | cons r rest ih =>
    have hsame : SameLimits s (visited t r) :=
      ⟨(visited_sameLimits t r).1.trans h.1, (visited_sameLimits t r).2.trans h.2⟩
    rw [List.foldl_cons, ih hsame, visited_touches, List.countP_cons, List.foldl_cons]
    simp only [visitList_of_sameLimits h, orphanAge_of_sameLimits h, decide_eq_true_iff]
    by_cases horphan : OrphanAge s r
    · simp only [horphan, if_true, Nat.add_comm _ 1, BitVec.ofNat_add, BitVec.add_assoc]
      rfl
    · simp only [horphan, if_false, Nat.add_zero]

/-- The keys of a list of records. -/
abbrev keysOf (l : List OpenRecord) : List ExchangeKey := l.map fun r => r.ex.key

theorem map_stale_of_notMem {k : ExchangeKey} {l : List OpenRecord} (h : k ∉ keysOf l) :
    (l.map fun x => if x.ex.key = k then { x with state := .stale } else x) = l :=
  (List.map_congr_left fun x hx => if_neg fun e => h (List.mem_map.mpr ⟨x, hx, e⟩)).trans (List.map_id' l)

theorem eraseP_key_append {k : ExchangeKey} {l m : List OpenRecord} {x : OpenRecord} (h : k ∉ keysOf l) (hx : x.ex.key = k) :
    ((l ++ x :: m).eraseP fun y => decide (y.ex.key = k)) = l ++ m := by
  rw [List.eraseP_append_right _ fun y hy => by simpa using fun e => h (List.mem_map.mpr ⟨y, hy, e⟩),
    List.eraseP_cons_of_pos (by simpa using hx)]

/-- The visit to a record whose key no other one of the list has. -/
theorem visitList_append {s : State} {r : OpenRecord} {l m : List OpenRecord} (hl : r.ex.key ∉ keysOf l)
    (hm : r.ex.key ∉ keysOf m) : visitList s r (l ++ r :: m) = l ++ ((walkOutcome s r).toList ++ m) := by
  have hturned :
      (if TurnsStale s r then (l ++ r :: m).map fun x => if x.ex.key = r.ex.key then { x with state := .stale } else x
      else l ++ r :: m) = l ++ turned s r :: m := by
    unfold turned
    by_cases hage : s.policy.active.part.staleLimit ≤ ageIn s r
    · rw [if_pos hage]
      by_cases hstale : r.state = .stale
      · rw [if_neg fun h => h.1 hstale, ← hstale]
      · rw [if_pos ⟨hstale, hage⟩, List.map_append, List.map_cons, map_stale_of_notMem hl, map_stale_of_notMem hm, if_pos rfl]
    · rw [if_neg hage, if_neg fun h => hage h.2]
  unfold visitList walkOutcome
  dsimp only
  rw [hturned]
  by_cases horphan : OrphanAge s r
  · rw [if_pos horphan, if_pos horphan, eraseP_key_append hl (turned_key s r)]
    rfl
  · rw [if_neg horphan, if_neg horphan]
    rfl

theorem walkOutcome_key {s : State} {r q : OpenRecord} (h : walkOutcome s r = some q) : q.ex.key = r.ex.key := by
  unfold walkOutcome at h
  split at h
  · exact nomatch h
  · rw [← Option.some.inj h, turned_key]

theorem foldl_visitList {s : State} (m : List OpenRecord) {l : List OpenRecord} (hkeys : (keysOf (l ++ m)).Nodup) :
    m.foldl (fun v r => visitList s r v) (l ++ m) = l ++ m.filterMap (walkOutcome s) := by
  induction m generalizing l with
  | nil => rfl
  | cons r rest ih =>
    have hcons : (keysOf l ++ r.ex.key :: keysOf rest).Nodup := by simpa [keysOf] using hkeys
    obtain ⟨hl, hm, hdisjoint⟩ := List.nodup_append.mp hcons
    have hnotLeft : r.ex.key ∉ keysOf l := fun h => hdisjoint _ h _ List.mem_cons_self rfl
    have hnotRight : r.ex.key ∉ keysOf rest := (List.nodup_cons.mp hm).1
    rw [List.foldl_cons, visitList_append hnotLeft hnotRight, ← List.append_assoc]
    have hsub : (keysOf (l ++ (walkOutcome s r).toList ++ rest)).Nodup := by
      refine hkeys.sublist ?_
      cases houtcome : walkOutcome s r with
      | none => simp [keysOf]
      | some q => simp [keysOf, walkOutcome_key houtcome]
    rw [ih hsub, List.filterMap_cons]
    cases walkOutcome s r with
    | none => simp
    | some q => simp

/-- The whole walk, keys unique: every record of the list turned into its outcome. -/
theorem staleWalk_tracker {s : State} (hkeys : (keysOf s.tracker.released).Nodup) :
    (staleWalk s).tracker =
      { s.tracker with
        released := s.tracker.released.filterMap (walkOutcome s)
        orphaned := s.tracker.orphaned + BitVec.ofNat 32 (s.tracker.released.countP fun r => decide (OrphanAge s r)) } := by
  have hwalk : staleWalk s = s.tracker.released.foldl visited s := by
    unfold staleWalk
    exact congrArg (fun f => s.tracker.released.foldl f s) (funext fun v => funext fun r => (visited_eq v r).symm)
  have hlist := foldl_visitList (s := s) s.tracker.released (l := []) hkeys
  rw [hwalk, foldl_visited_tracker s.tracker.released ⟨rfl, rfl⟩]
  rw [List.nil_append, List.nil_append] at hlist
  rw [hlist]

/-- What becomes of a record of the list. -/
theorem walkOutcome_spec {s : State} {l : List OpenRecord} {r : OpenRecord} (hkeys : (keysOf l).Nodup) (hr : r ∈ l) :
    (ageIn s r < s.policy.active.part.staleLimit → r ∈ l.filterMap (walkOutcome s)) ∧
      (s.policy.active.part.staleLimit ≤ ageIn s r → ¬ OrphanAge s r →
        { r with state := .stale } ∈ l.filterMap (walkOutcome s)) ∧
      (OrphanAge s r → ∀ q ∈ l.filterMap (walkOutcome s), q.ex.key ≠ r.ex.key) := by
  refine ⟨fun hage => List.mem_filterMap.mpr ⟨r, hr, ?_⟩, fun hage hnot => List.mem_filterMap.mpr ⟨r, hr, ?_⟩,
    fun horphan q hq hkey => ?_⟩
  · have hnot : ¬ OrphanAge s r := by
      unfold OrphanAge
      omega
    exact (if_neg hnot).trans (congrArg some (if_neg (Nat.not_le.mpr hage)))
  · exact (if_neg hnot).trans (congrArg some (if_pos hage))
  · obtain ⟨r', hr', houtcome⟩ := List.mem_filterMap.mp hq
    have hsame : r' = r := eq_of_nodup_map hkeys hr' hr ((walkOutcome_key houtcome).symm.trans hkey)
    subst hsame
    exact nomatch houtcome.symm.trans (if_pos horphan)

end Sys2Proof.Machine

/-! SUPPORT. A scan pass: what its parts leave of a slot and of the rest, and the whole. -/

namespace Sys2Proof.Machine

/-! ### A slot across the parts of a pass -/

/-- What every part of a pass but the idle marking leaves of a slot. -/
def MarksKept (x y : Slot) : Prop :=
  y.admissionMark = x.admissionMark ∧ y.idleRun = x.idleRun ∧ y.idleFlag = x.idleFlag ∧ (y.state = .bound ↔ x.state = .bound)

/-- What the walk and the starvation check leave besides: the commands held, and an outstanding count that does not rise. -/
def Visited (x y : Slot) : Prop :=
  MarksKept x y ∧ (y.queue.map fun h => h.ex) = (x.queue.map fun h => h.ex) ∧ y.outstanding ≤ x.outstanding

/-- What decides whether a slot is quiet, across any parts but the idle marking: an empty slot stays so, and a slot that holds a
command still holds one or has one outstanding. -/
def Undisturbed (x y : Slot) : Prop :=
  (x.depth = 0 → x.outstanding = 0 → y.depth = 0 ∧ y.outstanding = 0) ∧ (x.depth ≠ 0 → y.depth ≠ 0 ∨ y.outstanding ≠ 0)

theorem MarksKept.refl (x : Slot) : MarksKept x x := ⟨rfl, rfl, rfl, .rfl⟩

theorem MarksKept.trans {x y z : Slot} (hxy : MarksKept x y) (hyz : MarksKept y z) : MarksKept x z := by
  obtain ⟨hmark, hrun, hflag, hbound⟩ := hxy
  obtain ⟨hmark', hrun', hflag', hbound'⟩ := hyz
  exact ⟨hmark'.trans hmark, hrun'.trans hrun, hflag'.trans hflag, hbound'.trans hbound⟩

theorem Visited.refl (x : Slot) : Visited x x := ⟨.refl x, rfl, (Nat.le_refl _)⟩

theorem Visited.trans {x y z : Slot} (hxy : Visited x y) (hyz : Visited y z) : Visited x z :=
  ⟨hxy.1.trans hyz.1, hyz.2.1.trans hxy.2.1, Nat.le_trans hyz.2.2 hxy.2.2⟩

theorem Visited.depth {x y : Slot} (h : Visited x y) : y.depth = x.depth := by
  have hlength := congrArg List.length h.2.1
  rwa [List.length_map, List.length_map] at hlength

theorem Visited.undisturbed {x y : Slot} (h : Visited x y) : Undisturbed x y := by
  have hle : y.outstanding ≤ x.outstanding := h.2.2
  exact ⟨fun hdepth hout => ⟨h.depth.trans hdepth, by omega⟩, fun hdepth => .inl (h.depth ▸ hdepth)⟩

theorem Visited.undisturbed_trans {x y z : Slot} (hxy : Visited x y) (hyz : Undisturbed y z) : Undisturbed x z := by
  have hle : y.outstanding ≤ x.outstanding := hxy.2.2
  exact ⟨fun hdepth hout => hyz.1 (hxy.depth.trans hdepth) (by omega), fun hdepth => hyz.2 (hxy.depth ▸ hdepth)⟩

/-- The idle marking of a slot that the parts before it left undisturbed, seen after the parts that follow. -/
theorem idleMarked_spec {limit : Nat} {x y z : Slot} {p : Prop} (hxy : MarksKept x y) (hquiet : Undisturbed x y)
    (hp : p → y.outstanding ≠ 0) (hyz : MarksKept (idleMarkSlot limit y) z) :
    z.admissionMark = false ∧
      (x.state = .bound → x.admissionMark = false → x.depth = 0 → x.outstanding = 0 →
        z.idleRun = min 255 (x.idleRun + 1) ∧ z.idleFlag = (x.idleFlag || decide (limit ≤ min 255 (x.idleRun + 1)))) ∧
      (x.state = .bound → (x.admissionMark = true ∨ x.depth ≠ 0 ∨ p) → z.idleRun = 0 ∧ z.idleFlag = x.idleFlag) ∧
      (x.state ≠ .bound → z.idleRun = x.idleRun ∧ z.idleFlag = x.idleFlag) := by
  obtain ⟨hmark, hrun, hflag, hbound⟩ := hxy
  obtain ⟨hmark', hrun', hflag', -⟩ := hyz
  refine ⟨hmark', fun hx hclear hdepth hout => ?_, fun hx hbusy => ?_, fun hx => ?_⟩
  · have hmarking : idleMarkSlot limit y =
        { y with
          idleRun := min 255 (y.idleRun + 1), idleFlag := y.idleFlag || decide (limit ≤ min 255 (y.idleRun + 1))
          admissionMark := false } := by
      unfold idleMarkSlot
      rw [if_pos (hbound.mpr hx), if_pos ⟨hmark.trans hclear, hquiet.1 hdepth hout⟩]
      rfl
    rw [hrun', hflag', hmarking, ← hrun, ← hflag]
    exact ⟨rfl, rfl⟩
  · have hnotQuiet : ¬ (y.admissionMark = false ∧ y.depth = 0 ∧ y.outstanding = 0) := by
      rintro ⟨hclear, hdepth, hout⟩
      obtain hmarked | hheld | hpart := hbusy
      · rw [hmark, hmarked] at hclear
        exact nomatch hclear
      · exact (hquiet.2 hheld).elim (· hdepth) (· hout)
      · exact hp hpart hout
    have hmarking : idleMarkSlot limit y = { y with idleRun := 0, admissionMark := false } := by
      unfold idleMarkSlot
      rw [if_pos (hbound.mpr hx), if_neg hnotQuiet]
    rw [hrun', hflag', hmarking]
    exact ⟨rfl, hflag⟩
  · have hmarking : idleMarkSlot limit y = { y with admissionMark := false } := by
      unfold idleMarkSlot
      rw [if_neg fun h => hx (hbound.mp h)]
    rw [hrun', hflag', hmarking]
    exact ⟨hrun, hflag⟩

/-! ### The state across the parts of a pass -/

/-- What no part of a pass changes outside slots and records. -/
def PassKept (s t : State) : Prop :=
  t.pace = s.pace ∧ t.policy = s.policy ∧ t.monitor = s.monitor ∧ t.portF = s.portF ∧ t.portT = s.portT

theorem PassKept.refl (s : State) : PassKept s s := ⟨rfl, rfl, rfl, rfl, rfl⟩

theorem PassKept.trans {s t u : State} (hst : PassKept s t) (htu : PassKept t u) : PassKept s u := by
  obtain ⟨hpace, hpolicy, hmonitor, hf, ht⟩ := hst
  obtain ⟨hpace', hpolicy', hmonitor', hf', ht'⟩ := htu
  exact ⟨hpace'.trans hpace, hpolicy'.trans hpolicy, hmonitor'.trans hmonitor, hf'.trans hf, ht'.trans ht⟩

theorem PassKept.sameLimits {s t : State} (h : PassKept s t) : SameLimits s t := by
  obtain ⟨hpace, hpolicy, -⟩ := h
  exact ⟨congrArg (fun p => p.active.part) hpolicy, congrArg (fun b => b.epoch) hpace⟩

/-- The walk and the starvation check: slots visited, nothing else of these. -/
def Passed (s t : State) : Prop := PassKept s t ∧ ∀ i, Visited (s.slot i) (t.slot i)

theorem Passed.refl (s : State) : Passed s s := ⟨.refl s, fun _ => .refl _⟩

theorem Passed.trans {s t u : State} (hst : Passed s t) (htu : Passed t u) : Passed s u :=
  ⟨hst.1.trans htu.1, fun i => (hst.2 i).trans (htu.2 i)⟩

theorem Passed.foldl {β : Type} {f : State → β → State} (hf : ∀ v b, Passed v (f v b)) (l : List β) (s : State) :
    Passed s (l.foldl f s) := by
  induction l generalizing s with
  | nil => exact .refl s
  | cons b rest ih => exact (hf s b).trans (ih _)

/-- A part that leaves the slots. -/
theorem Passed.of_slots {s t : State} (hkept : PassKept s t) (hslots : t.slots = s.slots) : Passed s t :=
  ⟨hkept, fun i => slot_eq_of_slots hslots i ▸ Visited.refl _⟩

theorem Passed.modSlot {s : State} (i : SlotId) {g : Slot → Slot} (hg : Visited (s.slot i) (g (s.slot i))) :
    Passed s (s.modSlot i g) := by
  refine ⟨.refl s, fun j => ?_⟩
  obtain rfl | hj := Decidable.em (j = i)
  · rw [slot_modSlot_self]
    exact hg
  · rw [slot_modSlot_other s i j _ hj]
    exact .refl _

theorem passed_raiseNotice (k : NoticeKind) (s : State) : Passed s (raiseNotice k s) :=
  .of_slots (by rw [raiseNotice_touches]; exact .refl s) (by rw [raiseNotice_touches])

theorem passed_offerEvent (k : EventKind) (slot : Option SlotId) (value : BitVec 32) (s : State) :
    Passed s (offerEvent k slot value s) :=
  .of_slots (by rw [offerEvent_touches]; exact .refl s) (by rw [offerEvent_touches])

theorem visited_noted (x : Slot) :
    Visited x { x with queue := modHead (fun r => { r with starveNoted := true }) x.queue } := by
  refine ⟨.refl x, ?_, (Nat.le_refl _)⟩
  show (modHead _ x.queue).map _ = _
  cases x.queue <;> rfl

theorem passed_starveSlot (s : State) (i : SlotId) : Passed s (starveSlot s i) := by
  unfold starveSlot
  split
  · exact .refl s
  · split
    · exact (Passed.modSlot i (visited_noted _)).trans (passed_raiseNotice _ _)
    · exact .refl s

theorem passed_starveCheck (s : State) : Passed s (starveCheck s) := Passed.foldl passed_starveSlot _ s

theorem passed_starveAt (here place : ScanPlace) (s : State) : Passed s (starveAt here place s) := by
  unfold starveAt
  split
  · exact passed_starveCheck s
  · exact .refl s

theorem passed_completeDrain (i : SlotId) (s : State) : Passed s (completeDrain i s) := by
  unfold completeDrain
  split
  · next h =>
    refine .modSlot i ⟨⟨rfl, rfl, rfl, ?_⟩, rfl, (Nat.le_refl _)⟩
    rw [h.1]
    exact iff_of_false (fun h => nomatch h) fun h => nomatch h
  · exact .refl s

theorem passed_decrementOutstanding (i : SlotId) (s : State) : Passed s (decrementOutstanding i s) := by
  unfold decrementOutstanding
  have hlowered : Passed s (s.modSlot i fun x => { x with outstanding := x.outstanding - 1 }) :=
    .modSlot i ⟨.refl _, rfl, Nat.sub_le _ 1⟩
  exact hlowered.trans (passed_completeDrain i _)

theorem passed_tracker (s : State) (x : Tracker) : Passed s { s with tracker := x } := .of_slots (.refl s) rfl

theorem passed_turnStale (r : OpenRecord) (s : State) : Passed s (turnStale r s) := by
  unfold turnStale
  have hmarked : Passed s (modOpen r.ex.key markStale s) := passed_tracker s _
  refine Passed.trans ?_ (passed_offerEvent _ _ _ _)
  split
  · exact hmarked.trans (passed_decrementOutstanding _ _)
  · exact hmarked

theorem passed_walkRecord (s : State) (r : OpenRecord) : Passed s (walkRecord s r) := by
  unfold walkRecord
  have hturned : Passed s (if turnsStale s r then turnStale r s else s) := by
    split
    · exact passed_turnStale r s
    · exact .refl s
  dsimp only
  split
  · exact hturned.trans (passed_tracker _ _)
  · exact hturned

theorem passed_staleWalk (s : State) : Passed s (staleWalk s) := Passed.foldl passed_walkRecord _ s

theorem starveSlot_tracker (s : State) (i : SlotId) : (starveSlot s i).tracker = s.tracker := by
  unfold starveSlot
  split
  · rfl
  · split
    · rw [raiseNotice_touches]; rfl
    · rfl

theorem starveCheck_tracker (s : State) : (starveCheck s).tracker = s.tracker := by
  unfold starveCheck
  generalize allSlots = l
  induction l generalizing s with
  | nil => rfl
  | cons i rest ih => exact (ih _).trans (starveSlot_tracker s i)

theorem starveAt_tracker (here place : ScanPlace) (s : State) : (starveAt here place s).tracker = s.tracker := by
  unfold starveAt
  split
  · exact starveCheck_tracker s
  · rfl

theorem idleAt_tracker (here place : ScanPlace) (s : State) : (idleAt here place s).tracker = s.tracker := by
  unfold idleAt
  split <;> rfl

theorem passKept_idleAt (here place : ScanPlace) (s : State) : PassKept s (idleAt here place s) := by
  unfold idleAt
  split
  · exact ⟨rfl, rfl, rfl, rfl, rfl⟩
  · exact .refl s

theorem passKept_decideRelease (s : State) : PassKept s (decideRelease s) := by
  rw [decideRelease_touches]
  exact .refl s

/-- A decision charges the slot it releases from, which then has a command outstanding. -/
theorem decideRelease_slot (s : State) (i : SlotId) :
    MarksKept (s.slot i) ((decideRelease s).slot i) ∧ Undisturbed (s.slot i) ((decideRelease s).slot i) := by
  obtain hnone | ⟨j, h, _, _, hhead, hrelease⟩ := decideRelease_cases s
  · rw [hnone]
    exact ⟨.refl _, (Visited.refl _).undisturbed⟩
  · have hslot : (decideRelease s).slot i = (s.modSlot j (chargeSlot (headCost s h) h.ex.length)).slot i := by
      rw [hrelease]
      rfl
    rw [hslot]
    obtain rfl | hi := Decidable.em (i = j)
    · rw [slot_modSlot_self]
      refine ⟨⟨rfl, rfl, rfl, .rfl⟩, fun hdepth => ?_, fun _ => .inr (Nat.succ_ne_zero _)⟩
      have hempty : (s.slot i).queue = [] := List.length_eq_zero_iff.mp hdepth
      unfold headOf at hhead
      rw [hempty] at hhead
      exact nomatch hhead
    · rw [slot_modSlot_other s j i _ hi]
      exact ⟨.refl _, (Visited.refl _).undisturbed⟩

end Sys2Proof.Machine

/-! SUPPORT. The scan pass, whole: its parts in order, the slots and the records at its end. -/

namespace Sys2Proof.Machine

/-! ### The parts in order -/

/-- The state the walk begins with. -/
def beforeWalk (idle starve : ScanPlace) (s : State) : State := starveAt .beforeWalk starve (idleAt .beforeWalk idle s)

/-- The state the decision is taken on. -/
def afterWalk (idle starve : ScanPlace) (s : State) : State :=
  starveAt .afterWalk starve (idleAt .afterWalk idle (staleWalk (beforeWalk idle starve s)))

/-- The state the last parts begin with. -/
def afterDecision (idle starve : ScanPlace) (s : State) : State :=
  if walkTriggers (beforeWalk idle starve s) then decideRelease (afterWalk idle starve s) else afterWalk idle starve s

theorem deliverPass_eq (idle starve : ScanPlace) (s : State) :
    deliverPass idle starve s =
      starveAt .afterDecision starve (idleAt .afterDecision idle (afterDecision idle starve s)) := rfl

theorem passKept_beforeWalk (idle starve : ScanPlace) (s : State) : PassKept s (beforeWalk idle starve s) :=
  (passKept_idleAt _ _ _).trans (passed_starveAt _ _ _).1

theorem passKept_afterWalk (idle starve : ScanPlace) (s : State) : PassKept s (afterWalk idle starve s) :=
  (((passKept_beforeWalk idle starve s).trans (passed_staleWalk _).1).trans (passKept_idleAt _ _ _)).trans
    (passed_starveAt _ _ _).1

theorem passKept_afterDecision (idle starve : ScanPlace) (s : State) : PassKept s (afterDecision idle starve s) := by
  unfold afterDecision
  split
  · exact (passKept_afterWalk idle starve s).trans (passKept_decideRelease _)
  · exact passKept_afterWalk idle starve s

theorem passKept_deliverPass (idle starve : ScanPlace) (s : State) : PassKept s (deliverPass idle starve s) :=
  ((passKept_afterDecision idle starve s).trans (passKept_idleAt _ _ _)).trans (passed_starveAt _ _ _).1

/-! ### Slots -/

theorem idleAt_here (place : ScanPlace) (s : State) : idleAt place place s = idleMarking s := if_pos rfl

theorem idleAt_elsewhere {here place : ScanPlace} (h : place ≠ here) (s : State) : idleAt here place s = s := if_neg h

theorem slot_idleMarking {s t : State} (h : PassKept s t) (i : SlotId) :
    (idleMarking t).slot i = idleMarkSlot s.policy.active.part.idleLimit (t.slot i) := by
  obtain ⟨-, hpolicy, -⟩ := h
  unfold idleMarking State.part
  rw [slot_mapSlots, hpolicy]

/-- The walk, and the starvation check after it, where the idle marking stands elsewhere. -/
theorem passed_afterWalk {idle : ScanPlace} (starve : ScanPlace) (s : State) (h : idle ≠ .afterWalk) :
    Passed (beforeWalk idle starve s) (afterWalk idle starve s) := by
  unfold afterWalk
  rw [idleAt_elsewhere h]
  exact (passed_staleWalk _).trans (passed_starveAt _ _ _)

theorem afterDecision_slot (idle starve : ScanPlace) (s : State) (i : SlotId) :
    MarksKept ((afterWalk idle starve s).slot i) ((afterDecision idle starve s).slot i) ∧
      Undisturbed ((afterWalk idle starve s).slot i) ((afterDecision idle starve s).slot i) := by
  unfold afterDecision
  split
  · exact decideRelease_slot _ i
  · exact ⟨.refl _, (Visited.refl _).undisturbed⟩

/-- The idle marking takes a slot that the parts before it left undisturbed, and the parts behind it leave what it set. -/
theorem deliverPass_slot (idle starve : ScanPlace) (s : State) (i : SlotId) :
    ∃ y, MarksKept (s.slot i) y ∧ Undisturbed (s.slot i) y ∧ (idle = .beforeWalk → y = s.slot i) ∧
      MarksKept (idleMarkSlot s.policy.active.part.idleLimit y) ((deliverPass idle starve s).slot i) := by
  have hlast (v : State) : MarksKept (v.slot i) ((starveAt .afterDecision starve v).slot i) :=
    ((passed_starveAt .afterDecision starve v).2 i).1
  rw [deliverPass_eq]
  cases idle with
  | beforeWalk =>
    refine ⟨s.slot i, .refl _, (Visited.refl _).undisturbed, fun _ => rfl, ?_⟩
    have hbefore : MarksKept (idleMarkSlot s.policy.active.part.idleLimit (s.slot i))
        ((beforeWalk .beforeWalk starve s).slot i) := by
      unfold beforeWalk
      rw [idleAt_here, ← slot_idleMarking (.refl s) i]
      exact ((passed_starveAt .beforeWalk starve (idleMarking s)).2 i).1
    rw [idleAt_elsewhere (here := .afterDecision) (place := .beforeWalk) (by decide)]
    have hwalked : Passed (beforeWalk .beforeWalk starve s) (afterWalk .beforeWalk starve s) :=
      passed_afterWalk starve s (by decide)
    exact ((hbefore.trans (hwalked.2 i).1).trans
      (afterDecision_slot .beforeWalk starve s i).1).trans (hlast _)
  | afterWalk =>
    have hwalked : Passed s (staleWalk (beforeWalk .afterWalk starve s)) := by
      unfold beforeWalk
      rw [idleAt_elsewhere (here := .beforeWalk) (place := .afterWalk) (by decide)]
      exact (passed_starveAt .beforeWalk starve s).trans (passed_staleWalk _)
    refine ⟨_, (hwalked.2 i).1, (hwalked.2 i).undisturbed, fun h => (nomatch h), ?_⟩
    have hmarked : MarksKept
        (idleMarkSlot s.policy.active.part.idleLimit ((staleWalk (beforeWalk .afterWalk starve s)).slot i))
        ((afterWalk .afterWalk starve s).slot i) := by
      unfold afterWalk
      rw [idleAt_here, ← slot_idleMarking hwalked.1 i]
      exact ((passed_starveAt .afterWalk starve _).2 i).1
    rw [idleAt_elsewhere (here := .afterDecision) (place := .afterWalk) (by decide)]
    exact (hmarked.trans (afterDecision_slot .afterWalk starve s i).1).trans (hlast _)
  | afterDecision =>
    have hwalked : Passed s (afterWalk .afterDecision starve s) := by
      refine Passed.trans ?_ (passed_afterWalk starve s (by decide))
      unfold beforeWalk
      rw [idleAt_elsewhere (here := .beforeWalk) (place := .afterDecision) (by decide)]
      exact passed_starveAt .beforeWalk starve s
    have hdecided := afterDecision_slot .afterDecision starve s i
    refine ⟨_, (hwalked.2 i).1.trans hdecided.1, (hwalked.2 i).undisturbed_trans hdecided.2, fun h => (nomatch h), ?_⟩
    rw [idleAt_here, ← slot_idleMarking (passKept_afterDecision .afterDecision starve s) i]
    exact hlast _

/-! ### Records -/

/-- A part of a pass leaves the exchanges of the commands held. -/
def HeldKept (s t : State) : Prop := ∀ i, ((t.slot i).queue.map fun h => h.ex) = ((s.slot i).queue.map fun h => h.ex)

theorem HeldKept.trans {s t u : State} (hst : HeldKept s t) (htu : HeldKept t u) : HeldKept s u := fun i => (htu i).trans (hst i)

theorem Passed.heldKept {s t : State} (h : Passed s t) : HeldKept s t := fun i => (h.2 i).2.1

theorem idleMarkSlot_queue (limit : Nat) (x : Slot) : (idleMarkSlot limit x).queue = x.queue := by
  unfold idleMarkSlot
  dsimp only
  split
  · split <;> rfl
  · rfl

theorem heldKept_idleAt (here place : ScanPlace) (s : State) : HeldKept s (idleAt here place s) := by
  unfold idleAt
  split
  · intro i
    rw [slot_idleMarking (.refl s) i, idleMarkSlot_queue]
  · exact fun _ => rfl

theorem heldKept_afterWalk (idle starve : ScanPlace) (s : State) : HeldKept s (afterWalk idle starve s) :=
  ((((heldKept_idleAt _ _ _).trans (passed_starveAt _ _ _).heldKept).trans (passed_staleWalk _).heldKept).trans
    (heldKept_idleAt _ _ _)).trans (passed_starveAt _ _ _).heldKept

/-- A decision adds to the released list at most the record of a command held. -/
theorem decideRelease_tracker (s : State) :
    ∃ added, (decideRelease s).tracker = { s.tracker with released := s.tracker.released ++ added } ∧
      ∀ q ∈ added, ∃ i, ∃ h ∈ (s.slot i).queue, q.ex = h.ex := by
  obtain hnone | ⟨i, h, _, _, hhead, hrelease⟩ := decideRelease_cases s
  · refine ⟨[], ?_, fun q hq => absurd hq List.not_mem_nil⟩
    rw [hnone, List.append_nil]
  · refine ⟨[releasedRecord s h], by rw [hrelease]; rfl, fun q hq => ⟨i, h, List.mem_of_head? hhead, ?_⟩⟩
    rw [List.mem_singleton.mp hq]
    rfl

/-- The records at a pass's end: those the walk leaves, and at most one of a command held at its start. -/
theorem deliverPass_tracker (idle starve : ScanPlace) (s : State) :
    ∃ added, (deliverPass idle starve s).tracker =
        { (staleWalk (beforeWalk idle starve s)).tracker with
          released := (staleWalk (beforeWalk idle starve s)).tracker.released ++ added } ∧
      ∀ q ∈ added, ∃ i, ∃ h ∈ (s.slot i).queue, q.ex.key = h.ex.key := by
  have hwalked : (afterWalk idle starve s).tracker = (staleWalk (beforeWalk idle starve s)).tracker := by
    unfold afterWalk
    rw [starveAt_tracker, idleAt_tracker]
  rw [deliverPass_eq, starveAt_tracker, idleAt_tracker, ← hwalked]
  unfold afterDecision
  split
  · obtain ⟨added, htracker, hheld⟩ := decideRelease_tracker (afterWalk idle starve s)
    refine ⟨added, htracker, fun q hq => ?_⟩
    obtain ⟨i, h, hh, hex⟩ := hheld q hq
    have hmem : h.ex ∈ ((s.slot i).queue.map fun g => g.ex) :=
      heldKept_afterWalk idle starve s i ▸ List.mem_map.mpr ⟨h, hh, rfl⟩
    obtain ⟨g, hg, hgex⟩ := List.mem_map.mp hmem
    exact ⟨i, g, hg, by rw [hex, hgex]⟩
  · refine ⟨[], ?_, fun q hq => absurd hq List.not_mem_nil⟩
    rw [List.append_nil]

theorem beforeWalk_tracker (idle starve : ScanPlace) (s : State) : (beforeWalk idle starve s).tracker = s.tracker := by
  unfold beforeWalk
  rw [starveAt_tracker, idleAt_tracker]

/-- The records at a pass's end, keys unique. -/
theorem deliverPass_records (idle starve : ScanPlace) {s : State} (hkeys : KeysUnique s) :
    (deliverPass idle starve s).tracker.orphaned =
        s.tracker.orphaned + BitVec.ofNat 32 (s.tracker.released.countP fun r => decide (OrphanAge s r)) ∧
      ∀ r ∈ s.tracker.released,
        (ageIn s r < s.policy.active.part.staleLimit → r ∈ (deliverPass idle starve s).tracker.released) ∧
          (s.policy.active.part.staleLimit ≤ ageIn s r → ¬ OrphanAge s r →
            { r with state := .stale } ∈ (deliverPass idle starve s).tracker.released) ∧
          (OrphanAge s r → ∀ q ∈ (deliverPass idle starve s).tracker.released, q.ex.key ≠ r.ex.key) := by
  obtain ⟨-, hreleased, hdisjoint⟩ := List.nodup_append.mp hkeys
  have hlimits := (passKept_beforeWalk idle starve s).sameLimits
  have hwalk := staleWalk_tracker (s := beforeWalk idle starve s) (by rw [beforeWalk_tracker]; exact hreleased)
  rw [beforeWalk_tracker, walkOutcome_of_sameLimits hlimits] at hwalk
  simp only [orphanAge_of_sameLimits hlimits] at hwalk
  obtain ⟨added, htracker, hheld⟩ := deliverPass_tracker idle starve s
  rw [htracker, hwalk]
  refine ⟨rfl, fun r hr => ?_⟩
  obtain ⟨hyoung, hstale, horphan⟩ := walkOutcome_spec hreleased hr
  refine ⟨fun hage => List.mem_append_left _ (hyoung hage), fun hage hnot => List.mem_append_left _ (hstale hage hnot),
    fun hage q hq => ?_⟩
  obtain hq | hq := List.mem_append.mp hq
  · exact horphan hage q hq
  · obtain ⟨i, h, hh, hkey⟩ := hheld q hq
    rw [hkey]
    exact hdisjoint _ (List.mem_flatMap.mpr ⟨i, List.mem_finRange i, List.mem_map.mpr ⟨h, hh, rfl⟩⟩) _
      (List.mem_map.mpr ⟨r, hr, rfl⟩)

/-! ### The pass -/

theorem scanCanExpire_of_counts {x : Channel} (h : x.run = .running ∨ x.run = .stopping ∧ x.count ≤ 1) :
    scanCanExpire x = true := by
  unfold scanCanExpire
  obtain hrun | ⟨hrun, hcount⟩ := h
  · rw [hrun]; rfl
  · rw [decide_eq_true hrun, decide_eq_true hcount, Bool.and_self, Bool.or_true]

theorem scanPass_of_counts {idle starve : ScanPlace} {s : State} (hreset : s.inReset = false)
    (h : s.pace.scan.run = .running ∨ s.pace.scan.run = .stopping ∧ s.pace.scan.count ≤ 1) :
    scanPass idle starve s =
      deliverPass idle starve (s.modPace fun b => { b with scan := expireScan s.paceSettings b.scan }) := by
  refine if_neg ?_
  rw [hreset, scanCanExpire_of_counts h]
  simp

theorem passTaken_eq (idle starve : ScanPlace) (s : State) :
    passTaken idle starve s =
      deliverPass idle starve (s.modPace fun b => { b with scan := expireScan s.paceSettings b.scan }) := by
  have htriggers (v : State) :
      (∃ r ∈ v.tracker.released, TurnsStale v r ∧ generationTest v r.ex = true) ↔ walkTriggers v = true := by
    unfold walkTriggers
    simp only [List.any_eq_true, Bool.and_eq_true, turnsStale_iff]
  have hwalk : visited = walkRecord := funext fun v => funext fun r => visited_eq v r
  have hstarve : starvationNoted = starveSlot := funext fun v => funext fun i => starvationNoted_eq v i
  unfold passTaken
  simp only [htriggers, hwalk, hstarve, idleMarked_eq]
  rfl

/-- Settles O24: the idle marking among the parts that leave what it sets, the walk as one list function, and the rest unchanged. -/
theorem scanPassVisits : Obligations.ScanPassVisits := by
  intro idle starve s hreset hcounts
  have hrun : (expireScan s.paceSettings s.pace.scan).run = if s.pace.scan.run = .running then .running else .stopped := by
    obtain hrunning | ⟨hstopping, -⟩ := hcounts
    · simp [expireScan, reloadChannel, hrunning]
    · simp [expireScan, hstopping]
  have hkept := passKept_deliverPass idle starve (s.modPace fun b => { b with scan := expireScan s.paceSettings b.scan })
  have hrecords := fun hkeys : KeysUnique s => deliverPass_records idle starve
    (s := s.modPace fun b => { b with scan := expireScan s.paceSettings b.scan }) hkeys
  have hslots := deliverPass_slot idle starve (s.modPace fun b => { b with scan := expireScan s.paceSettings b.scan })
  refine ⟨_, congrArg Host.Outcome.next (scanPass_of_counts hreset hcounts), (passTaken_eq idle starve s).symm, ?_⟩
  generalize deliverPass idle starve (s.modPace fun b => { b with scan := expireScan s.paceSettings b.scan }) = t
    at hkept hrecords hslots
  obtain ⟨hpace, hpolicy, hmonitor, hportF, hportT⟩ := hkept
  refine ⟨?_, ?_, ?_, ?_, hpolicy, hmonitor, hportF, hportT, fun i => ?_, fun hkeys => ?_⟩
  · rw [hpace]
    exact hrun
  · rw [hpace]; rfl
  · rw [hpace]; rfl
  · rw [hpace]; rfl
  · obtain ⟨y, hmarks, hquiet, hfirst, hmarked⟩ := hslots i
    exact idleMarked_spec hmarks hquiet (p := idle = .beforeWalk ∧ (s.slot i).outstanding ≠ 0)
      (fun h => by rw [hfirst h.1]; exact h.2) hmarked
  · obtain ⟨horphaned, hlist⟩ := hrecords hkeys
    refine ⟨horphaned, fun r hr => ?_⟩
    obtain ⟨hyoung, hstale, horphan⟩ := hlist r hr
    exact ⟨hyoung, fun hage hlimit => hstale hage (Nat.not_le.mpr hlimit), horphan⟩

end Sys2Proof.Machine
